-- ==== Sys2Proof/Word.lean ====
section
/-! DEFINITION. The one word type of the part: a byte on the two ports and the address link. All other quantities of the
manual are integers (00_scope.md, Units and numeric conventions) and are modelled as `Int` and `Nat`. -/

namespace Sys2Proof

/-- One byte of a frame (R188, R189, R203). -/
abbrev Byte := BitVec 8

end Sys2Proof
end

