-- ==== Sys2Proof/Config.lean ====
section
/-! DEFINITION. What is fixed for one machine: the capacities, the levels the board puts on the sampled input pins while
`State.reset` is taken, and the one free value of the model. -/

namespace Sys2Proof

/-- The two reel axes (R3, chapter 2). -/
inductive Reel where
  | supply
  | takeup
  deriving DecidableEq, Repr, Inhabited

/-- The reading of the leader sensor (R63, R74). -/
inductive Leader where
  | tape
  | leader
  deriving DecidableEq, Repr

/-- The tape-path switch: closed when tape lies in the path (R65, R176; signal TPS). -/
inductive Switch where
  | opened
  | closed
  deriving DecidableEq, Repr

/-- The input levels that the part samples as a device reset ends (R63, R94, R187, R205), and the tape-path switch as it
then stands. -/
structure ResetLevels where
  /-- mode pin 0 is high: the default play speed is 1,905 -/
  mode0High : Bool
  /-- mode pin 1 is high: the default settle time is 2,000 ms -/
  mode1High : Bool
  leader : Leader
  chaseRequest : Bool
  externalStop : Bool
  tapePath : Switch
  deriving DecidableEq, Repr

/-- DESIGN CHOICE (log entry 1, unsafe): the levels in force when `State.reset` is taken. The spec samples the pins and
does not fix them; every input line is taken low. -/
def Config.resetLevels : ResetLevels :=
  { mode0High := false, mode1High := false, leader := .tape, chaseRequest := false,
    externalStop := false, tapePath := .opened }

/-- Spans the list can hold (R110). -/
def Config.maxSpans : Nat := 96

/-- Marks the table can hold (R130). -/
def Config.maxMarks : Nat := 128

/-- Entries the return list can hold (R103). -/
def Config.maxReturns : Nat := 16

/-- FREE VALUES (log entry 2), one for each draw: the axis named by the threading timer's TENSION_LOSS when neither arm lies
outside its band and no test since the entry to THREADING found one outside. R38 states no axis there. -/
opaque Config.unstatedThreadingAxis : Nat → Reel

end Sys2Proof
end

