-- ==== Sys2Proof/Syntax.lean ====
section
/-! DEFINITION. The commands of the part: one constructor for each row of spec/opcode_table.json, with the operands that
the outside supplies with it. -/

namespace Sys2Proof

/-- The direction of a roller or capstan count (R1, R44). -/
inductive Sense where
  | forward
  | reverse
  deriving DecidableEq, Repr

/-- The direction of a reel count, from that reel's own point of view (R3). -/
inductive Turn where
  | winding
  | unwinding
  deriving DecidableEq, Repr

/-- The part's events and operations (spec/opcode_table.json). The table gives no operand fields: the operands are what the
rule of each row reads from the outside when the event is taken. -/
inductive Instr where
  /-- DEVICE_RESET (R205): the levels sampled as the reset ends -/
  | deviceReset (levels : ResetLevels)
  /-- PANEL_DEASSERTION (R188): the MOSI bytes of the assertion that ends; one byte is clocked out for each clocked in.
  `tapePath` is the tape-path switch as it stands (R65, R79, R197 read it directly). -/
  | panelDeassertion (mosi : List Byte) (tapePath : Switch)
  /-- STUDIO_FRAME_ARRIVAL (R189): the N bytes from the tag through the check byte (N is the list's length) -/
  | studioFrameArrival (frame : List Byte) (tapePath : Switch)
  /-- STUDIO_GAP_TIMEOUT (R189) -/
  | studioGapTimeout
  /-- STUDIO_FRAMING_ERROR (R189) -/
  | studioFramingError
  /-- STUDIO_RESPONSE_SENT (R189) -/
  | studioResponseSent
  /-- ADDRESS_LINK_FRAME (R203): bytes 1 to 4 of the frame; byte 0 is the sync byte 0x96 -/
  | addressLinkFrame (high mid low check : Byte)
  /-- LOST_SYNC (R203) -/
  | lostSync
  /-- LINK_GAP_TIMEOUT (R203) -/
  | linkGapTimeout
  /-- LINK_FRAMING_ERROR (R203) -/
  | linkFramingError
  /-- ROLLER_COUNT (R1) -/
  | rollerCount (sense : Sense)
  /-- GAP_COUNT_LIMIT (R121) -/
  | gapCountLimit
  /-- REEL_COUNT (R9) -/
  | reelCount (reel : Reel) (turn : Turn)
  /-- REJECT_COUNT_LIMIT (R11) -/
  | rejectCountLimit (reel : Reel)
  /-- CAPSTAN_COUNT (R44) -/
  | capstanCount (sense : Sense)
  /-- AXIS_SERVO_PERIOD (R26): the axis and the conversion of its tension arm, 0..4,095 (R21) -/
  | axisServoPeriod (reel : Reel) (arm : Fin 4096)
  /-- SATURATION_COUNT_LIMIT (R34) -/
  | saturationCountLimit (reel : Reel)
  /-- LOW_COUNT_LIMIT (R36) -/
  | lowCountLimit (reel : Reel)
  /-- HIGH_COUNT_LIMIT (R37) -/
  | highCountLimit (reel : Reel)
  /-- CAPSTAN_SERVO_PERIOD (R53) -/
  | capstanServoPeriod
  /-- CAPSTAN_SATURATION_LIMIT (R54) -/
  | capstanSaturationLimit
  /-- PROFILE_GENERATOR_PERIOD (R46): the tape-path switch as sampled in this period (R176) -/
  | profileGeneratorPeriod (tapePath : Switch)
  /-- OVERSPEED_COUNT_LIMIT (R58) -/
  | overspeedCountLimit (reel : Reel)
  /-- TAPE_OUT_COUNT_LIMIT (R176) -/
  | tapeOutCountLimit
  /-- THREADING_TIMER_EXPIRY (R38) -/
  | threadingTimerExpiry
  /-- MEASURING_TIMER_EXPIRY (R14) -/
  | measuringTimerExpiry
  /-- SETTLE_TIMER_EXPIRY (R69) -/
  | settleTimerExpiry
  /-- ENGAGE_TIMER_EXPIRY (R72) -/
  | engageTimerExpiry
  /-- VERIFY_TIMER_EXPIRY (R162) -/
  | verifyTimerExpiry
  /-- LOCATED_PULSE_END (R169) -/
  | locatedPulseEnd
  /-- LEADER_SENSOR_CHANGE (R74, R177): the new reading. R74 allows the end-of-tape halt and the cause LEADER of one change
  in either order: `haltFirst` is the order this change is taken in. -/
  | leaderSensorChange (reading : Leader) (haltFirst : Bool)
  /-- EXTERNAL_STOP_LINE_CHANGE (R178): the new level, true when asserted -/
  | externalStopLineChange (asserted : Bool)
  /-- EXT_STOP_LEVEL_CATCH (R178) -/
  | extStopLevelCatch
  /-- CHASE_REQUEST_RISE (R95) -/
  | chaseRequestRise
  /-- CHASE_REQUEST_FALL (R97) -/
  | chaseRequestFall
  /-- CHIP_SELECT_ASSERTION (R188) -/
  | chipSelectAssertion
  /-- REQUEST_START_BYTE (R189): the byte 0xB7 -/
  | requestStartByte
  /-- SYNC_BYTE (R203): the byte 0x96 -/
  | syncByte
  deriving DecidableEq, Repr

end Sys2Proof
end

