-- ==== Sys2Proof/Decode.lean ====
section
/-! DEFINITION. The command that a word spells by the opcode table's bits. No row of spec/opcode_table.json gives bits
("fields" is empty in all 38 rows), so no word spells a command. -/

namespace Sys2Proof

/-- The table gives bits to no row: no word of any length spells a command. DEDUCED, safe: log entry 5. -/
def decodeTableWord (_nbits _w : Nat) : Option Instr := none

end Sys2Proof
end

