-- ==== Sys2Proof/Machine/Arith.lean ====
section
/-! DEFINITION. The fixed meanings of *rounded*, *truncated* and *clamped* (00_scope.md, Units and numeric conventions). -/

namespace Sys2Proof.Machine

/-- *Truncated*: the quotient toward zero. -/
def truncDiv (n d : Int) : Int := Int.tdiv n d

/-- *Rounded*: the quotient to the nearest integer, halves away from zero. Every divisor of the manual's formulas is
positive. -/
def roundDiv (n d : Int) : Int :=
  if 0 ≤ n then (2 * n + d) / (2 * d) else -((2 * -n + d) / (2 * d))

/-- *Clamped to a range*: replaced by the nearer end of lo..hi when outside it. -/
def clampTo (lo hi x : Int) : Int :=
  if x < lo then lo else if hi < x then hi else x

/-- The magnitude of a quantity, as an integer. -/
def mag (x : Int) : Int := if x < 0 then -x else x

/-- Move `x` toward `goal` by at most `step` (the ramps of R24 and R46). -/
def toward (goal step x : Int) : Int :=
  if mag (goal - x) ≤ step then goal else if x < goal then x + step else x - step

end Sys2Proof.Machine
end

