-- ==== Sys2Proof/Machine/Params.lean ====
section
/-! DEFINITION. The parameter table (R202): numbers, ranges, defaults, and how a value given is stored. -/

namespace Sys2Proof.Machine

/-- No. 0: Play speed; 1,905 or 3,810; default from mode pin 0 (R49, R63). -/
abbrev Param.playSpeed : Nat := 0
/-- No. 1: Varispeed ratio (R50). -/
abbrev Param.varispeed : Nat := 1
/-- No. 2: Wind speed (R47). -/
abbrev Param.windSpeed : Nat := 2
/-- No. 3: Creep speed (R14, R45). -/
abbrev Param.creepSpeed : Nat := 3
/-- No. 4: Accel limit (R46). -/
abbrev Param.accelLimit : Nat := 4
/-- No. 5: Protect deceleration (R51). -/
abbrev Param.protectDecel : Nat := 5
/-- No. 6: Capstan proportional gain Kpc (R53). -/
abbrev Param.capstanKp : Nat := 6
/-- No. 7: Capstan integral gain Kic (R53). -/
abbrev Param.capstanKi : Nat := 7
/-- No. 8: Capstan drive limit (R53). -/
abbrev Param.capstanLimit : Nat := 8
/-- No. 9: Stop tension (R23). -/
abbrev Param.stopTension : Nat := 9
/-- No. 10: Play tension (R23). -/
abbrev Param.playTension : Nat := 10
/-- No. 11: Wind tension (R23). -/
abbrev Param.windTension : Nat := 11
/-- No. 12: Tension ramp (R24). -/
abbrev Param.tensionRamp : Nat := 12
/-- No. 13: Supply arm centre (R22). -/
abbrev Param.supplyCentre : Nat := 13
/-- No. 14: Takeup arm centre (R22). -/
abbrev Param.takeupCentre : Nat := 14
/-- No. 15: Arm low limit (R36). -/
abbrev Param.armLow : Nat := 15
/-- No. 16: Arm high limit (R37). -/
abbrev Param.armHigh : Nat := 16
/-- No. 17: Proportional gain Kp (R28). -/
abbrev Param.kp : Nat := 17
/-- No. 18: Integral gain Ki (R29). -/
abbrev Param.ki : Nat := 18
/-- No. 19: Speed gain Kv (R30). -/
abbrev Param.kv : Nat := 19
/-- No. 20: Supply torque scale (R27). -/
abbrev Param.supplyTorque : Nat := 20
/-- No. 21: Takeup torque scale (R27). -/
abbrev Param.takeupTorque : Nat := 21
/-- No. 22: Supply drive limit (R31). -/
abbrev Param.supplyLimit : Nat := 22
/-- No. 23: Takeup drive limit (R31). -/
abbrev Param.takeupLimit : Nat := 23
/-- No. 24: End margin (R19). -/
abbrev Param.endMargin : Nat := 24
/-- No. 25: End speed (R20). -/
abbrev Param.endSpeed : Nat := 25
/-- No. 26: Settle time in ms; 250 or 2,000; default from mode pin 1 (R63, R69). -/
abbrev Param.settleTime : Nat := 26
/-- No. 27: Panel level (R82). -/
abbrev Param.panelLevel : Nat := 27
/-- No. 28: Studio level (R82). -/
abbrev Param.studioLevel : Nat := 28
/-- No. 29: Chase level (R82). -/
abbrev Param.chaseLevel : Nat := 29
/-- No. 30: Lockout level (R82). -/
abbrev Param.lockoutLevel : Nat := 30
/-- No. 31: Report latency in microseconds (R107). -/
abbrev Param.reportLatency : Nat := 31
/-- No. 32: Report speed limit (R108). -/
abbrev Param.reportSpeed : Nat := 32
/-- No. 33: Locate window in blocks (R163). -/
abbrev Param.locateWindow : Nat := 33
/-- No. 34: Approach distance (R158). -/
abbrev Param.approachDistance : Nat := 34
/-- No. 35: Park offset (R158). -/
abbrev Param.parkOffset : Nat := 35
/-- No. 36: Retry limit (R156). -/
abbrev Param.retryLimit : Nat := 36
/-- No. 37: External stop mode: 0 LEVEL, 1 EDGE (R178). -/
abbrev Param.extStopMode : Nat := 37

/-- One row of the parameter table: the range and the default. -/
structure ParamRow where
  lo : Int
  hi : Int
  default : Int
  deriving DecidableEq, Repr

/-- Parameters 0 to 18 (R202). Play speed's default is the one a low mode pin gives. -/
def paramRowsLow : List ParamRow :=
  [⟨1905, 3810, 3810⟩,
   ⟨3584, 4608, 4096⟩,
   ⟨2000, 50000, 50000⟩,
   ⟨200, 2000, 1000⟩,
   ⟨2000, 50000, 25000⟩,
   ⟨10000, 100000, 60000⟩,
   ⟨0, 4095, 384⟩,
   ⟨0, 1023, 48⟩,
   ⟨1024, 32767, 24000⟩,
   ⟨20, 400, 100⟩,
   ⟨20, 400, 120⟩,
   ⟨20, 400, 90⟩,
   ⟨1, 20, 1⟩,
   ⟨1024, 3071, 2048⟩,
   ⟨1024, 3071, 2048⟩,
   ⟨0, 1023, 400⟩,
   ⟨3072, 4095, 3700⟩,
   ⟨0, 4095, 320⟩,
   ⟨0, 1023, 64⟩]

/-- Parameters 19 to 37 (R202). Settle time's default is the one a low mode pin gives. -/
def paramRowsHigh : List ParamRow :=
  [⟨0, 4095, 512⟩,
   ⟨1, 65535, 900⟩,
   ⟨1, 65535, 900⟩,
   ⟨1024, 32767, 30000⟩,
   ⟨1024, 32767, 30000⟩,
   ⟨0, 2000, 400⟩,
   ⟨1000, 10000, 5000⟩,
   ⟨250, 2000, 250⟩,
   ⟨0, 2, 2⟩,
   ⟨0, 2, 1⟩,
   ⟨0, 2, 1⟩,
   ⟨0, 3, 0⟩,
   ⟨0, 4095, 500⟩,
   ⟨1905, 15240, 7620⟩,
   ⟨1, 16, 2⟩,
   ⟨400, 40000, 7620⟩,
   ⟨0, 8000, 0⟩,
   ⟨0, 15, 3⟩,
   ⟨0, 1, 0⟩]

/-- The parameter table in the order of its numbers. -/
def paramRows : List ParamRow := paramRowsLow ++ paramRowsHigh

/-- The default of one parameter: mode pin 0 gives the play speed's, mode pin 1 the settle time's (R63). -/
def paramDefault (mode0High mode1High : Bool) (n : Nat) (row : ParamRow) : Int :=
  if n = Param.playSpeed then (if mode0High then 1905 else 3810)
  else if n = Param.settleTime then (if mode1High then 2000 else 250)
  else row.default

/-- Every parameter at its default, as device reset leaves the table (R63, R202). -/
def paramDefaults (mode0High mode1High : Bool) : List Int :=
  paramRows.mapIdx (fun n row => paramDefault mode0High mode1High n row)

/-- The value SET_PARAMETER stores for a value given (R202): the nearer of the two for play speed and settle time, the
value clamped to its range for every other parameter. -/
def paramStored (n : Nat) (row : ParamRow) (v : Int) : Int :=
  if n = Param.playSpeed then (if v ≤ 2857 then 1905 else 3810)
  else if n = Param.settleTime then (if v ≤ 1125 then 250 else 2000)
  else clampTo row.lo row.hi v

end Sys2Proof.Machine
end

