-- ==== Sys2Proof/Machine/State.lean ====
section
/-! DEFINITION. The state of the part as plain data, block by block (00_scope.md, Blocks), the queue of waiting commands,
and `State.reset`. -/

namespace Sys2Proof.Machine

/-- One value for each reel. -/
structure Pair (α : Type) where
  supply : α
  takeup : α
  deriving DecidableEq, Repr

/-! ## Geometry unit (chapter 1) -/

/-- The contents of a LOADED profile slot (R4). -/
structure Profile where
  ch : Int
  cf : Int
  nmax : Int
  /-- the eight inertia points J0..J7 -/
  inertia : List Int
  deriving DecidableEq, Repr

/-- The mode of a circumference estimator (section 1.4). -/
inductive EstMode where
  | initial
  | tracking
  deriving DecidableEq, Repr

/-- The state of one reel's circumference estimator (section 1.4). -/
structure Estimator where
  /-- C, absent in UNTHREADED (R8) -/
  c : Option Int
  mode : EstMode
  /-- Δn: reel counts in the open window -/
  dn : Int
  /-- ΔL: roller counts in the open window -/
  dl : Int
  /-- consecutive implausible samples -/
  reject : Nat
  deriving DecidableEq, Repr

/-- The geometry unit: head length, estimators, profile table and bindings, measuring timer. -/
structure Geometry where
  /-- the head length coordinate, absent until MEASURING is left (R1) -/
  head : Option Int
  est : Pair Estimator
  /-- the four profile slots; none is EMPTY (R4) -/
  profiles : List (Option Profile)
  /-- the slot bound to each reel (R5) -/
  bound : Pair (Option Nat)
  measuringTimer : Bool
  deriving DecidableEq, Repr

/-! ## Tension servo (chapter 2) -/

/-- The clamp direction of a drive word (R31, R53). -/
inductive Clamp where
  | none
  | high
  | low
  deriving DecidableEq, Repr

/-- The state of one reel axis (chapter 2). -/
structure Axis where
  arm : Int
  /-- T, the tension setpoint in force -/
  tension : Int
  integ : Int
  /-- D, the drive word held on the amplifier output -/
  word : Int
  clamp : Clamp
  satCount : Nat
  lowCount : Nat
  highCount : Nat
  released : Bool
  deriving DecidableEq, Repr

/-- The tension servo: both axes and the threading timer. -/
structure Tension where
  axes : Pair Axis
  threadingTimer : Bool
  /-- the first axis found out of its band at the last threading test since the entry to THREADING (R38) -/
  outAtLastTest : Option Reel
  deriving DecidableEq, Repr

/-! ## Speed unit (chapter 3) -/

/-- A 16-period count history: the counts since the last generator period, and the net counts of the last 16 periods,
oldest first (R43, R44). -/
structure History where
  running : Int
  periods : List Int
  deriving DecidableEq, Repr

/-- The profile generator's mode (R45). -/
inductive GenMode where
  | forced
  | still
  | reel
  | capstan
  | deceleration
  deriving DecidableEq, Repr

/-- The kind of a deceleration, fixed at its start (R51). -/
inductive DecelKind where
  | reel
  | capstan
  | atRest
  deriving DecidableEq, Repr

/-- The capstan loop (R53, R54). -/
structure CapstanLoop where
  integ : Int
  word : Int
  clamp : Clamp
  satCount : Nat
  deriving DecidableEq, Repr

/-- The speed unit (chapter 3). -/
structure Speed where
  roller : History
  capstan : History
  reels : Pair History
  vMeas : Int
  vCap : Int
  reelRate : Pair Int
  overspeed : Pair Nat
  vRef : Int
  target : Int
  /-- A, the commanded acceleration -/
  accel : Int
  mode : GenMode
  kind : Option DecelKind
  /-- the stopping point its owner has given (R48) -/
  stopPoint : Option Int
  /-- stopping point reached has been reported for this stopping point (R48) -/
  pointReported : Bool
  /-- no generator period has passed since the phase that heads for this stopping point was started (R160, R164) -/
  pointFresh : Bool
  /-- rest reached has been reported for this deceleration (R52) -/
  restReported : Bool
  /-- the requested signed speed of a WIND or SHUTTLE (R47) -/
  requested : Int
  chaseRatio : Int
  loop : CapstanLoop
  deriving DecidableEq, Repr

/-! ## Transport sequencer (chapter 4) -/

inductive MeasurePhase where
  | creep
  | creepStop
  deriving DecidableEq, Repr

inductive PlayPhase where
  | braking
  | engage
  | running
  deriving DecidableEq, Repr

/-- The phases of a locate (section 8.4). -/
inductive LocatePhase where
  | travel
  | approach
  | verify
  | reposition
  deriving DecidableEq, Repr

/-- The chase phases (R94, R98); LOCATING carries its locate's phase. -/
inductive ChasePhase where
  | parked
  | rolling
  | locating (phase : LocatePhase)
  | releasing
  deriving DecidableEq, Repr

/-- The transport state with its phase (section 4.1). -/
inductive Transport where
  | unthreaded
  | threading
  | measuring (phase : MeasurePhase)
  | settling
  | stopped
  | play (phase : PlayPhase)
  | wind
  | shuttle
  | locate (phase : LocatePhase)
  | chase (phase : ChasePhase)
  | halting
  | protectStop
  | faulted
  | unthreading
  deriving DecidableEq, Repr

/-- The state entered when rest is reached (section 4.1). -/
inductive RestDest where
  | stopped
  | settling
  | unthreading
  | chaseParked
  deriving DecidableEq, Repr

/-- The outputs of the sequencer (R62) and the chase grant line (R94). -/
structure Outputs where
  driveEnable : Bool
  brakesReleased : Bool
  pinchDown : Bool
  lifterOut : Bool
  grant : Bool
  deriving DecidableEq, Repr

/-- The transport sequencer (section 4.1). -/
structure Sequencer where
  transport : Transport
  restDest : Option RestDest
  creepCancelled : Bool
  /-- the settle timer while it runs, with the settle time of its start in ms (R69) -/
  settleTimer : Option Int
  engageTimer : Bool
  leaderSeen : Leader
  mode0High : Bool
  mode1High : Bool
  outputs : Outputs
  deriving DecidableEq, Repr

/-! ## Motion arbiter (chapter 5) -/

/-- The two request ports. -/
inductive Port where
  | panel
  | studio
  deriving DecidableEq, Repr

/-- The sources of motion (R82). -/
inductive Source where
  | panel
  | studio
  | chase
  deriving DecidableEq, Repr

/-- The kinds of an active motion record (R84). -/
inductive MotionKind where
  | thread
  | clearFault
  | play
  | wind
  | shuttle
  | locate
  | stop
  | unthread
  | chase
  deriving DecidableEq, Repr

/-- The active motion record (R84). -/
structure Motion where
  kind : MotionKind
  source : Source
  level : Int
  deriving DecidableEq, Repr

/-- The motion requests, numbers 0 to 11 of the request summary (R191, R195), with their operands. -/
inductive MotionReq where
  | stop
  | play
  | wind (speed : Int)
  | shuttle (speed : Int)
  | locateMark (number : Int)
  | locateAddress (address : Int)
  | locateLength (length : Int)
  | returnBack
  | thread (supply takeup : Int)
  | unthread
  | clearFault
  | chaseSpeed (ratio : Int)
  deriving DecidableEq, Repr

/-- An entry of the return list (R103). -/
structure ReturnEntry where
  length : Int
  address : Option Int
  deriving DecidableEq, Repr

/-- A motion request with its port and, for RETURN, the popped entry: what the pending slot holds (R91). -/
structure Held where
  req : MotionReq
  port : Port
  entry : Option ReturnEntry
  deriving DecidableEq, Repr

/-- The chase protocol states (R94). -/
inductive ChaseState where
  | idle
  | waiting
  | starting
  | granted
  | releasing
  | spent
  deriving DecidableEq, Repr

/-- The motion arbiter (chapter 5). -/
structure Arbiter where
  active : Option Motion
  slot : Option Held
  chase : ChaseState
  /-- the level of the chase request line -/
  chaseLine : Bool
  /-- the return list, newest first -/
  returns : List ReturnEntry
  deriving DecidableEq, Repr

/-! ## Map unit (chapter 6) -/

/-- A stamped report, or one address with one length. -/
structure Stamp where
  address : Int
  length : Int
  deriving DecidableEq, Repr

/-- How an edge of a span arose (R109). -/
inductive EdgeKind where
  | edge
  | jump
  | cut
  deriving DecidableEq, Repr

/-- A span record (R109). The end address is derived: see `Span.lastAddr`. -/
structure Span where
  num : Nat
  startLen : Int
  lastLen : Int
  startAddr : Int
  pitch : Int
  anchors : Nat
  isOpen : Bool
  startKind : EdgeKind
  lastKind : EdgeKind
  deriving DecidableEq, Repr

/-- An edge of a span: the start, or the last length. -/
inductive SpanEdge where
  | start
  | last
  deriving DecidableEq, Repr

/-- The map unit (chapter 6). -/
structure MapUnit where
  /-- the span list by increasing start length -/
  spans : List Span
  /-- the growing edge of the OPEN span (R113) -/
  growing : Option SpanEdge
  candidate : Option Stamp
  gapCount : Nat
  linkErrors : Nat
  deriving DecidableEq, Repr

/-! ## Mark table (chapter 7) -/

/-- The resolution fields of a mark (R131, R134). -/
inductive Resolution where
  | unresolved
  | resolved (span : Nat) (length : Int)
  | confirmed (span : Nat) (length : Int)
  | ambiguous (candidates : List Nat)
  deriving DecidableEq, Repr

/-- A mark record (R131). -/
structure Mark where
  number : Nat
  address : Int
  trim : Int
  owner : Port
  lock : Bool
  resolution : Resolution
  deriving DecidableEq, Repr

/-! ## Locate unit (chapter 8) -/

/-- The kind and target reference of a locate (R154). -/
inductive LocateTarget where
  | mark (number : Nat)
  | address (address : Int)
  | length (length : Int)
  | returnTo (entry : ReturnEntry)
  deriving DecidableEq, Repr

/-- Whether the latest recompute found the address in the map (R154, R157). -/
inductive TargetState where
  | inMap
  | notInMap
  deriving DecidableEq, Repr

/-- The newest report of the current pass with its span pitch (R161). -/
structure Newest where
  address : Int
  length : Int
  pitch : Int
  deriving DecidableEq, Repr

/-- The active locate record (R154). Its phase is the transport's (`Transport.locatePhase`). -/
structure LocateRecord where
  target : LocateTarget
  aim : Int
  targetAddr : Option Int
  offset : Int
  stopPoint : Int
  targetState : Option TargetState
  retries : Nat
  limit : Nat
  newest : Option Newest
  /-- the last verification error evaluated (R167, R168) -/
  lastError : Option Int
  deriving DecidableEq, Repr

/-- The outcomes of a locate (R154). -/
inductive LocateOutcome where
  | verified
  | unverified
  | missed
  | noAddress
  | targetRetired
  | replaced
  | preempted
  | broken
  | released
  /-- PROTECTED: ended by a protection stop or fault (R172) -/
  | protection
  deriving DecidableEq, Repr

/-- The locate result (R154). -/
structure LocateResult where
  target : LocateTarget
  outcome : LocateOutcome
  retries : Nat
  head : Int
  error : Option Int
  deriving DecidableEq, Repr

/-- The locate unit (chapter 8). -/
structure Locate where
  active : Option LocateRecord
  result : Option LocateResult
  verifyTimer : Bool
  /-- the located line -/
  located : Bool
  deriving DecidableEq, Repr

/-! ## Protection unit (chapter 9) -/

/-- The protection causes (R175). -/
inductive Cause where
  | tensionLoss
  | overTension
  | tapeOut
  | driveSaturated
  | reelOverspeed
  | leader
  | geometry
  | range
  | extStop
  deriving DecidableEq, Repr

/-- The axis that a cause names (R175, R183). -/
inductive CauseAxis where
  | supply
  | takeup
  | capstan
  | none
  deriving DecidableEq, Repr

/-- The stop report (R183), without its unread flag. -/
structure StopReport where
  cause : Cause
  axis : CauseAxis
  transport : Transport
  /-- kind and source of the active motion, absent when none was active -/
  motion : Option (MotionKind × Source)
  head : Option Int
  vMeas : Int
  arms : Pair Int
  words : Pair Int
  capstanWord : Int
  circumferences : Pair (Option Int)
  /-- the later causes, each at most once -/
  later : List Cause
  deriving DecidableEq, Repr

/-- The protection unit (chapter 9). -/
structure Protection where
  report : Option StopReport
  unread : Bool
  tapeOut : Nat
  /-- the last level taken from the external stop line, true when asserted -/
  extStop : Bool
  deriving DecidableEq, Repr

/-! ## Port unit (chapter 10) -/

/-- The 13 flags (R199), in the order of their bits. -/
inductive Flag where
  | locateDone
  | locateFailed
  | preempted
  /-- PROTECTED -/
  | protectedStop
  | fault
  | mapFull
  | markChanged
  | returnWrapped
  | chaseBroken
  | chaseClamped
  | linkError
  | pendingDropped
  | responseLost
  deriving DecidableEq, Repr

/-- What each port holds: its response, flag set and attention mask (section 10.3, R199, R200). -/
structure PortState where
  /-- the held response; on the studio port it is being sent while it is held (R189) -/
  held : Option (List Byte)
  flags : BitVec 13
  mask : BitVec 13
  deriving DecidableEq, Repr

/-- The receive state of the studio receiver (R189). -/
inductive RxState where
  | hunt
  | collecting
  deriving DecidableEq, Repr

/-- The receive state of the address link (R203): in HUNT, whether the present run of non-sync bytes has been counted. -/
inductive LinkRx where
  | hunt (runCounted : Bool)
  | collecting
  deriving DecidableEq, Repr

/-- The port unit (chapter 10). -/
structure PortUnit where
  panel : PortState
  studio : PortState
  /-- a panel assertion is in progress (R188) -/
  asserted : Bool
  studioRx : RxState
  linkRx : LinkRx
  /-- the stored value of each parameter, by number (R202) -/
  params : List Int
  deriving DecidableEq, Repr

/-! ## The part -/

/-- A qualified condition that its owner has raised and that has not yet been taken as the event of its own row
(log entry 3). -/
inductive Due where
  | reject (reel : Reel)
  | saturation (reel : Reel)
  | low (reel : Reel)
  | high (reel : Reel)
  | capstanSaturation
  | overspeed (reel : Reel)
  | tapeOut
  | extStopCatch
  deriving DecidableEq, Repr

/-- The whole part. `due`, `draws` and `pending` are the model's own: the raised events not yet taken, oldest first, the
number of free values taken so far (log entry 2), and the commands waiting, first in first out. -/
structure State where
  geom : Geometry
  tension : Tension
  speed : Speed
  seq : Sequencer
  arb : Arbiter
  map : MapUnit
  marks : List Mark
  locate : Locate
  prot : Protection
  ports : PortUnit
  /-- the level last taken from the tape-path switch (signal TPS) -/
  tapePath : Switch
  due : List Due
  draws : Nat
  pending : List Instr
  deriving DecidableEq, Repr

/-- Nothing in the part stops with a fault: the manual gives every event an effect in every state. -/
inductive Fault where
  deriving DecidableEq, Repr

/-- The reasons a command is refused without a meaning. -/
inductive Refusal where
  /-- raised by exec's arm of a command that has no meaning yet; safe. No arm raises it. -/
  | notModelled (mnemonic : String)
  deriving DecidableEq, Repr

/-! ## After device reset -/

/-- The profile that slot 0 holds after device reset (R4). -/
def resetProfile : Profile :=
  { ch := 1795, cf := 5530, nmax := 25600, inertia := [300, 420, 640, 980, 1460, 2100, 2920, 3950] }

/-- An estimator after device reset and in UNTHREADED (R15). -/
def Estimator.reset : Estimator := { c := none, mode := .initial, dn := 0, dl := 0, reject := 0 }

/-- A reel axis after device reset (R41). -/
def Axis.reset : Axis :=
  { arm := 0, tension := 0, integ := 0, word := 0, clamp := .none, satCount := 0, lowCount := 0, highCount := 0,
    released := false }

/-- A history after device reset (R43, R44). -/
def History.reset : History := { running := 0, periods := List.replicate 16 0 }

/-- The capstan loop after device reset and whenever it is cleared (R55, R60). -/
def CapstanLoop.reset : CapstanLoop := { integ := 0, word := 0, clamp := .none, satCount := 0 }

/-- The speed unit after device reset (R60). -/
def Speed.reset : Speed :=
  { roller := .reset, capstan := .reset, reels := ⟨.reset, .reset⟩, vMeas := 0, vCap := 0, reelRate := ⟨0, 0⟩,
    overspeed := ⟨0, 0⟩, vRef := 0, target := 0, accel := 0, mode := .forced, kind := none, stopPoint := none,
    pointReported := false, pointFresh := false, restReported := false, requested := 0, chaseRatio := 4096, loop := .reset }

/-- A port after device reset: no response held, every flag clear and every flag enabled (R199, R204). -/
def PortState.reset : PortState := { held := none, flags := 0, mask := BitVec.allOnes 13 }

/-- The part as device reset leaves it with the given sampled levels (R205 and the reset rule of each block), and no
command waiting. DESIGN CHOICE, unsafe: log entry 22. -/
def State.resetWith (l : ResetLevels) : State :=
  { geom :=
      { head := none, est := ⟨.reset, .reset⟩, profiles := [some resetProfile, none, none, none],
        bound := ⟨none, none⟩, measuringTimer := false }
    tension := { axes := ⟨.reset, .reset⟩, threadingTimer := false, outAtLastTest := none }
    speed := .reset
    seq :=
      { transport := .unthreaded, restDest := none, creepCancelled := false, settleTimer := none,
        engageTimer := false, leaderSeen := l.leader, mode0High := l.mode0High, mode1High := l.mode1High,
        outputs :=
          { driveEnable := false, brakesReleased := false, pinchDown := false, lifterOut := false, grant := false } }
    arb :=
      { active := none, slot := none, chase := if l.chaseRequest then .spent else .idle,
        chaseLine := l.chaseRequest, returns := [] }
    map := { spans := [], growing := none, candidate := none, gapCount := 0, linkErrors := 0 }
    marks := []
    locate := { active := none, result := none, verifyTimer := false, located := false }
    prot := { report := none, unread := false, tapeOut := 0, extStop := l.externalStop }
    ports :=
      { panel := .reset, studio := .reset, asserted := false, studioRx := .hunt, linkRx := .hunt false,
        params := paramDefaults l.mode0High l.mode1High }
    tapePath := l.tapePath
    due := []
    draws := 0
    pending := [] }

/-- The part right after device reset, with the input levels of `Config.resetLevels`. -/
def State.reset : State := State.resetWith Config.resetLevels

end Sys2Proof.Machine
end

