-- ==== Sys2Proof/Machine/Flags.lean ====
section
/-! DEFINITION. The flag sets and attention lines (section 10.6). -/

namespace Sys2Proof.Machine

/-- The bit of a flag (R199). -/
def Flag.bit : Flag → Nat
  | .locateDone => 0
  | .locateFailed => 1
  | .preempted => 2
  | .protectedStop => 3
  | .fault => 4
  | .mapFull => 5
  | .markChanged => 6
  | .returnWrapped => 7
  | .chaseBroken => 8
  | .chaseClamped => 9
  | .linkError => 10
  | .pendingDropped => 11
  | .responseLost => 12

/-- The set holding one flag. -/
def Flag.set (f : Flag) : BitVec 13 := BitVec.ofNat 13 (2 ^ f.bit)

/-- A flag of a port's set is set (R199). -/
def PortState.has (p : PortState) (f : Flag) : Bool := p.flags.getLsbD f.bit

/-- A flag set in one port's set; a flag already set stays set (R199). -/
def PortState.raise (f : Flag) (p : PortState) : PortState := { p with flags := p.flags ||| f.set }

/-- The attention line of a port (R201): high while an enabled flag is set. -/
def PortState.attention (p : PortState) : Bool := p.flags &&& p.mask != 0

/-- CLEAR_FLAGS on one port (R200): the named flags cleared and, with SET, the mask rewritten. -/
def PortState.clearFlags (clear : BitVec 13) (mask : Option (BitVec 13)) (p : PortState) : PortState :=
  { p with flags := p.flags &&& ~~~clear, mask := mask.getD p.mask }

/-- The state of one port. -/
def PortUnit.port (u : PortUnit) : Port → PortState
  | .panel => u.panel
  | .studio => u.studio

/-- One port's state changed. -/
def PortUnit.onPort (p : Port) (f : PortState → PortState) (u : PortUnit) : PortUnit :=
  match p with
  | .panel => { u with panel := f u.panel }
  | .studio => { u with studio := f u.studio }

/-- One port's state changed. -/
def State.onPort (p : Port) (f : PortState → PortState) (s : State) : State := { s with ports := s.ports.onPort p f }

/-- A flag raised in one port's set (R199). -/
def State.raiseOn (p : Port) (f : Flag) (s : State) : State := s.onPort p (PortState.raise f)

/-- A flag raised in both ports' sets (R199). -/
def State.raise (f : Flag) (s : State) : State :=
  (s.raiseOn .panel f).raiseOn .studio f

/-- A flag raised in both sets when a condition holds. -/
def State.raiseIf (b : Bool) (f : Flag) (s : State) : State := if b then s.raise f else s

end Sys2Proof.Machine
end

