-- ==== Sys2Proof/Machine/Transport.lean ====
section
/-! DEFINITION. What each transport state and phase means to the blocks that read it: the rows of R62, R45, R23, R8 and
R108, and the pairs of one value per reel. -/

namespace Sys2Proof

/-- The axis name of a reel (R175). -/
def Reel.axis : Reel → Machine.CauseAxis
  | .supply => .supply
  | .takeup => .takeup

/-- The supply or takeup member of a pair of parameters. -/
def Reel.pick (r : Reel) (supply takeup : Nat) : Nat :=
  match r with
  | .supply => supply
  | .takeup => takeup

/-- The tape direction that a reel's winding sense implies (R3): the takeup reel winds in forward motion, the supply reel in
reverse motion. -/
def Reel.tapeSign : Reel → Int
  | .takeup => 1
  | .supply => -1

/-- The sign of a reel count (R3). -/
def Turn.sign : Turn → Int
  | .winding => 1
  | .unwinding => -1

/-- The sign of a roller or capstan count (R1, R44). -/
def Sense.sign : Sense → Int
  | .forward => 1
  | .reverse => -1

namespace Machine

/-! ## Pairs -/

/-- The value of one reel. -/
def Pair.get {α : Type} (p : Pair α) : Reel → α
  | .supply => p.supply
  | .takeup => p.takeup

/-- The pair with one reel's value replaced. -/
def Pair.set {α : Type} (p : Pair α) (r : Reel) (a : α) : Pair α :=
  match r with
  | .supply => { p with supply := a }
  | .takeup => { p with takeup := a }

/-- The pair with a function applied to one reel's value. -/
def Pair.modify {α : Type} (p : Pair α) (r : Reel) (f : α → α) : Pair α := p.set r (f (p.get r))

/-- A function applied to both reels' values. -/
def Pair.map {α β : Type} (p : Pair α) (f : α → β) : Pair β := ⟨f p.supply, f p.takeup⟩

/-! ## States and phases -/

/-- Two transports are the same state when they differ in the phase alone (R8, R61). DEDUCED, unsafe: log entry 17. -/
def Transport.sameState : Transport → Transport → Bool
  | .unthreaded, .unthreaded | .threading, .threading | .measuring _, .measuring _ | .settling, .settling
  | .stopped, .stopped | .play _, .play _ | .wind, .wind | .shuttle, .shuttle | .locate _, .locate _
  | .chase _, .chase _ | .halting, .halting | .protectStop, .protectStop | .faulted, .faulted
  | .unthreading, .unthreading => true
  | _, _ => false

/-- The transport is in CHASE. -/
def Transport.isChase : Transport → Bool
  | .chase _ => true
  | _ => false

/-- The transport is in MEASURING. -/
def Transport.isMeasuring : Transport → Bool
  | .measuring _ => true
  | _ => false

/-- The locate phase in force, in LOCATE or in CHASE LOCATING (R76). -/
def Transport.locatePhase : Transport → Option LocatePhase
  | .locate p => some p
  | .chase (.locating p) => some p
  | _ => none

/-- The states in which the drives are forced: UNTHREADED and FAULTED (R33, R45). -/
def Transport.isForced : Transport → Bool
  | .unthreaded | .faulted => true
  | _ => false

/-- The generator mode of each state and phase (R45). -/
def Transport.genMode : Transport → GenMode
  | .unthreaded | .faulted => .forced
  | .threading | .settling | .stopped | .unthreading | .chase .parked => .still
  | .measuring .creep | .wind | .shuttle => .reel
  | .locate .travel | .locate .reposition | .chase (.locating .travel) | .chase (.locating .reposition) => .reel
  | .play .engage | .play .running | .chase .rolling => .capstan
  | .locate .approach | .locate .verify | .chase (.locating .approach) | .chase (.locating .verify) => .capstan
  | .play .braking | .measuring .creepStop | .halting | .protectStop | .chase .releasing => .deceleration

/-- Whether the capstan loop is active (R45, R51, R62): in the CAPSTAN modes and in a deceleration of kind CAPSTAN. These are
also the rows with the pinch roller down, and the capstan-driven states of R71 and R159. -/
def Transport.capstanActive (t : Transport) (kind : Option DecelKind) : Bool :=
  match t.genMode with
  | .capstan => true
  | .deceleration => kind == some .capstan
  | _ => false

/-- The reading set (R108): the states in which a pass over the heads teaches the map. -/
def Transport.reading : Transport → Bool
  | .play .engage | .play .running | .shuttle | .chase .rolling => true
  | .locate .approach | .locate .verify | .chase (.locating .approach) | .chase (.locating .verify) => true
  | _ => false

/-- The states in which the estimators are active (R8). -/
def Transport.estimating : Transport → Bool
  | .measuring _ | .play _ | .wind | .shuttle | .locate _ | .chase _ | .halting | .protectStop => true
  | _ => false

/-- The states in which the low and high counts run (R36, R37). -/
def Transport.counting : Transport → Bool
  | .measuring _ | .settling | .stopped | .play _ | .wind | .shuttle | .locate _ | .chase _ | .halting
  | .protectStop => true
  | _ => false

/-- The states in which the end-of-tape halt watches the leader sensor (R74). -/
def Transport.watchesLeader : Transport → Bool
  | .play _ | .wind | .shuttle => true
  | _ => false

/-- The row of R62 for a state and phase, with the deceleration kind where the row depends on it, and the chase grant line,
which is high exactly in CHASE (R94). -/
def Transport.outputs (t : Transport) (kind : Option DecelKind) : Outputs :=
  let on := !t.isForced
  let down := t.capstanActive kind
  { driveEnable := on, brakesReleased := on, pinchDown := down,
    lifterOut := down || (t == .shuttle), grant := t.isChase }

/-- Which tension a state and phase asks for (R23). -/
inductive TensionChoice where
  | stop
  | play
  | wind
  | zero
  deriving DecidableEq, Repr

/-- The target tension of R23 and whether the speed term is formed. The forced states are given the stop row; they select
nothing (R33). -/
def Transport.tensionRow (t : Transport) (kind : Option DecelKind) : TensionChoice × Bool :=
  match t with
  | .threading | .settling | .stopped | .chase .parked | .unthreaded | .faulted => (.stop, false)
  | .measuring .creep | .wind | .shuttle => (.wind, true)
  | .locate .travel | .locate .reposition | .chase (.locating .travel) | .chase (.locating .reposition) => (.wind, true)
  | .measuring .creepStop | .play .braking => (.wind, kind == some .reel)
  | .play .engage | .play .running | .chase .rolling => (.play, false)
  | .locate .approach | .locate .verify | .chase (.locating .approach) | .chase (.locating .verify) => (.play, false)
  | .halting | .protectStop | .chase .releasing =>
    match kind with
    | some .reel => (.wind, true)
    | some .capstan => (.play, false)
    | _ => (.stop, false)
  | .unthreading => (.zero, false)

end Machine

end Sys2Proof
end

