-- ==== Sys2Proof/Machine/Geometry.lean ====
section
/-! DEFINITION. The geometry unit (chapter 1): profiles, circumference estimators, inertia, speed limits, and what a change
of transport state does to it. -/

namespace Sys2Proof.Machine

/-- The profile bound to a reel (R5), absent while none is bound. -/
def Geometry.profile (g : Geometry) (r : Reel) : Option Profile :=
  (g.bound.get r).bind (fun n => (g.profiles[n]?).join)

/-! ## Circumference estimator (R9 to R14) -/

/-- A closed window is valid (R10): |ΔL| ≥ 64, and ΔL has the tape direction that the sign of Δn implies. -/
def Estimator.valid (r : Reel) (e : Estimator) : Bool :=
  decide (64 ≤ mag e.dl) && decide (e.dl.sign = r.tapeSign * e.dn.sign)

/-- C_meas of a valid window (R10). -/
def Estimator.measured (e : Estimator) : Int := truncDiv (mag e.dl * 1024) (mag e.dn)

/-- A measured circumference is plausible for the bound profile (R11). -/
def Profile.plausible (p : Profile) (cMeas : Int) : Bool :=
  decide (truncDiv (p.ch * 7) 8 ≤ cMeas) && decide (cMeas ≤ 8190)

/-- The filter of R12. -/
def filterStep (ch c cMeas : Int) : Int :=
  let d := cMeas - c
  let step := roundDiv d 8
  let step := if step = 0 then d.sign else step
  clampTo ch 8190 (c + step)

/-- The window reopened (R8, R9). -/
def Estimator.reopen (e : Estimator) : Estimator := { e with dn := 0, dl := 0 }

/-- The evaluation of a closed window (R10 to R12, R14), and whether the reject count reached 3 (R11). The window is
reopened. -/
def Estimator.evaluate (r : Reel) (p : Option Profile) (e : Estimator) : Estimator × Bool :=
  match p with
  | none => (e.reopen, false)
  | some p =>
    if !e.valid r then (e.reopen, false)
    else if p.plausible e.measured then
      let c := match e.mode with
        | .initial => clampTo p.ch 8190 e.measured
        | .tracking => filterStep p.ch (e.c.getD p.ch) e.measured
      ({ e with c := some c, mode := .tracking, reject := 0 }.reopen, false)
    else if e.reject + 1 = 3 then ({ e with reject := 0 }.reopen, true)
    else ({ e with reject := e.reject + 1 }.reopen, false)

/-- A reel count in an active estimator (R9): the count that brings |Δn| to 256 evaluates the window. -/
def Estimator.reelCount (r : Reel) (p : Option Profile) (t : Turn) (e : Estimator) : Estimator × Bool :=
  let e := { e with dn := e.dn + t.sign }
  if mag e.dn = 256 then e.evaluate r p else (e, false)

/-- The set-up of an estimator at THREAD acceptance (R13). -/
def Estimator.setup (p : Profile) : Estimator :=
  { c := some (truncDiv (p.ch + p.cf) 2), mode := .initial, dn := 0, dl := 0, reject := 0 }

/-! ## Inertia (R16, R17) -/

/-- C_k, the position of inertia point k (R16). -/
def Profile.pointPos (p : Profile) (k : Nat) : Int := p.ch + truncDiv (k * (p.cf - p.ch)) 7

/-- J_k. -/
def Profile.pointInertia (p : Profile) (k : Nat) : Int := p.inertia.getD k 0

/-- The interpolation in segment k (R17). -/
def Profile.segment (p : Profile) (c : Int) (k : Nat) : Int :=
  p.pointInertia k
    + truncDiv ((p.pointInertia (k + 1) - p.pointInertia k) * (c - p.pointPos k)) (p.pointPos (k + 1) - p.pointPos k)

/-- The interpolated inertia J of a reel at circumference C (R17). -/
def Profile.inertiaAt (p : Profile) (c : Int) : Int :=
  if c < p.pointPos 0 then p.pointInertia 0
  else if p.pointPos 7 ≤ c then p.pointInertia 7
  else
    match (List.range 7).find? (fun k => decide (c < p.pointPos (k + 1))) with
    | some k => p.segment c k
    | none => p.pointInertia 7

/-- J of a reel, absent while C is absent (R17). -/
def Geometry.inertia (g : Geometry) (r : Reel) : Option Int :=
  (g.profile r).bind (fun p => (g.est.get r).c.map p.inertiaAt)

/-! ## Speed limits (R18 to R20) -/

/-- v_lim of a reel, absent while C is absent (R18). -/
def Geometry.speedLimit (g : Geometry) (r : Reel) : Option Int :=
  (g.profile r).bind (fun p => (g.est.get r).c.map (fun c => truncDiv (p.nmax * c) 1024))

/-- The leaving reel (R19), from the target speed or, while that is 0, from v_ref. DEDUCED, unsafe: log entry 11. -/
def leavingReel (target vRef : Int) : Option Reel :=
  let v := if target = 0 then vRef else target
  if 0 < v then some .supply else if v < 0 then some .takeup else none

/-- The end-approach condition (R19). -/
def Geometry.endApproach (g : Geometry) (endMargin target vRef : Int) : Bool :=
  match leavingReel target vRef with
  | none => false
  | some r =>
    match g.profile r, (g.est.get r).c with
    | some p, some c => decide (c ≤ p.ch + endMargin)
    | _, _ => false

/-- `limit` lowered to an optional bound. -/
def lowerTo (limit : Int) : Option Int → Int
  | none => limit
  | some b => min limit b

/-- The bound of R47 that the geometry limit of R20 puts on a speed magnitude: the smaller of the two reels' v_lim and, in
end approach, the end speed. -/
def Geometry.boundSpeed (g : Geometry) (endMargin endSpeed target vRef v : Int) : Int :=
  let v := lowerTo (lowerTo v (g.speedLimit .supply)) (g.speedLimit .takeup)
  if g.endApproach endMargin target vRef then min v endSpeed else v

/-! ## Head length (R1, R2) -/

/-- The least head length (R1). -/
def headMin : Int := -8388608

/-- The greatest head length (R1). -/
def headMax : Int := 8388607

/-- A length clamped to the head length range. -/
def clampLength (l : Int) : Int := clampTo headMin headMax l

/-- A roller count on the head length (R1, R2), and whether it was discarded at a limit. -/
def Geometry.countHead (g : Geometry) (s : Sense) : Geometry × Bool :=
  match g.head with
  | none => (g, false)
  | some h =>
    let h' := h + s.sign
    if h' < headMin ∨ headMax < h' then (g, true) else ({ g with head := some h' }, false)

/-- A roller count in both estimator windows while they are active (R9). -/
def Geometry.countWindows (active : Bool) (s : Sense) (g : Geometry) : Geometry :=
  if active then { g with est := g.est.map (fun e => { e with dl := e.dl + s.sign }) } else g

/-! ## Changes of transport state (R1, R5, R8, R14, R15) -/

/-- Leaving MEASURING (R1, R14): the measuring timer stops, an INITIAL reel keeps its guess and passes to TRACKING, and the
head length becomes 0 unless UNTHREADING follows. -/
def Geometry.leaveMeasuring (new : Transport) (g : Geometry) : Geometry :=
  { g with
    measuringTimer := false
    est := g.est.map (fun e => { e with mode := .tracking })
    head := if new = .unthreading then g.head else some 0 }

/-- Entry to UNTHREADED (R1, R5, R15). -/
def Geometry.unthread (g : Geometry) : Geometry :=
  { g with head := none, est := ⟨.reset, .reset⟩, bound := ⟨none, none⟩, measuringTimer := false }

/-- What a change of transport state or phase does to the geometry unit: the windows reopen at every change of state (R8),
and entering and leaving MEASURING and entering UNTHREADED act as R1, R14 and R15 give. -/
def Geometry.onChange (old new : Transport) (g : Geometry) : Geometry :=
  if old.sameState new then g
  else
    let g := { g with est := g.est.map Estimator.reopen }
    let g := if old.isMeasuring then g.leaveMeasuring new else g
    let g := if new.isMeasuring then { g with measuringTimer := true } else g
    if new = .unthreaded then g.unthread else g

/-! ## Profile table (R4 to R7) -/

/-- A slot bound to either reel is in use (R5). -/
def Geometry.inUse (g : Geometry) (n : Nat) : Bool :=
  g.bound.supply == some n || g.bound.takeup == some n

/-- The contents of a slot, none when EMPTY. -/
def Geometry.slotProfile (g : Geometry) (n : Nat) : Option Profile := (g.profiles[n]?).join

/-- A slot replaced whole (R6). -/
def Geometry.setSlot (n : Nat) (p : Profile) (g : Geometry) : Geometry :=
  { g with profiles := g.profiles.set n (some p) }

/-- The binding and set-up of both reels at THREAD acceptance (R5, R13). -/
def Geometry.thread (supply takeup : Nat) (g : Geometry) : Geometry :=
  let g := { g with bound := ⟨some supply, some takeup⟩ }
  match g.profile .supply, g.profile .takeup with
  | some ps, some pt => { g with est := ⟨.setup ps, .setup pt⟩ }
  | _, _ => g

/-- CLEAR_FAULT on the geometry unit (R11, R186). -/
def Geometry.clearFault (g : Geometry) : Geometry :=
  { g with est := g.est.map (fun e => { e with reject := 0 }) }

end Sys2Proof.Machine
end

