-- ==== Sys2Proof/Machine/TapeMap.lean ====
section
/-! DEFINITION. The map unit (chapter 6): translations, learning, overlap resolution, capacity and the changes announced. -/

namespace Sys2Proof.Machine

/-! ## Translations (R109, R111) -/

/-- The prediction of a span at a length, which is also the address of that length in it (R111). -/
def Span.predict (p : Span) (l : Int) : Int := p.startAddr + roundDiv ((l - p.startLen) * 1024) p.pitch

/-- The length of an address in a span (R111), not held to the range of the head length. -/
def Span.lengthOf (p : Span) (a : Int) : Int := p.startLen + roundDiv ((a - p.startAddr) * p.pitch) 1024

/-- The end address, always derived from the other fields (R109). -/
def Span.lastAddr (p : Span) : Int := p.predict p.lastLen

/-- A report is consistent with a span (R111). -/
def Span.consistent (p : Span) (r : Stamp) : Bool := decide (mag (r.address - p.predict r.length) ≤ 2)

/-- A length lies in the span's length range (R109). -/
def Span.hasLength (p : Span) (l : Int) : Bool := decide (p.startLen ≤ l) && decide (l ≤ p.lastLen)

/-- An address lies in the span's address range (R109). -/
def Span.hasAddress (p : Span) (a : Int) : Bool := decide (p.startAddr ≤ a) && decide (a ≤ p.lastAddr)

/-- A span covers a length (R112 case 2). -/
def Span.covers (p : Span) (l : Int) : Bool := decide (p.startLen - 80 ≤ l) && decide (l ≤ p.lastLen + 80)

/-- Two spans share length (R117). -/
def Span.shares (p q : Span) : Bool := decide (p.startLen ≤ q.lastLen) && decide (q.startLen ≤ p.lastLen)

/-- The distance of a length from a span: 0 inside it, else to its nearer edge (R114, R122). -/
def Span.distance (p : Span) (l : Int) : Int :=
  if l < p.startLen then p.startLen - l else if p.lastLen < l then l - p.lastLen else 0

/-- A pitch held within its range (R109, R113, R118). -/
def clampPitch (p : Int) : Int := clampTo 39936 41984 p

/-- The pitch of a span when it is created (R109). -/
def nominalPitch : Int := 40960

/-- The anchor count's saturation (R109). -/
def capAnchors (n : Nat) : Nat := min n 65535

/-! ## Announced changes (R124) -/

/-- One change of the span list in an announcement (R124). REMOVED carries no number for a part of a split that found none
(R120). -/
inductive Change where
  | created (num : Nat)
  | extended (num : Nat)
  | refined (num : Nat)
  | merged (survivor absorbed : Nat)
  | cut (num : Nat)
  | evicted (num : Nat)
  | removed (num : Option Nat)
  deriving DecidableEq, Repr

/-- The result of a map event: the map, the changes to announce, and whether MAP_FULL is raised. -/
structure Learned where
  map : MapUnit
  changes : List Change
  mapFull : Bool
  deriving DecidableEq, Repr

/-! ## The list -/

/-- A span put in its place by start length (R110). -/
def insertSpan (p : Span) : List Span → List Span
  | [] => [p]
  | q :: rest => if p.startLen ≤ q.startLen then p :: q :: rest else q :: insertSpan p rest

/-- The OPEN span (R110). -/
def MapUnit.openSpan (m : MapUnit) : Option Span := m.spans.find? (fun p => p.isOpen)

/-- The spans other than the OPEN one. -/
def MapUnit.closed (m : MapUnit) : List Span := m.spans.filter (fun p => !p.isOpen)

/-- The span with a number. -/
def spanByNum (spans : List Span) (n : Nat) : Option Span := spans.find? (fun p => p.num == n)

/-- The lowest span number that no span of the list holds (R110). -/
def freeNum (spans : List Span) : Option Nat :=
  (List.range Config.maxSpans).find? (fun n => !spans.any (fun p => p.num == n))

/-- A span closed, its growing edge, if it has one, taking the given kind (R114, R116, R121). -/
def Span.closeWith (kind : EdgeKind) (growing : Option SpanEdge) (p : Span) : Span :=
  match growing with
  | none => { p with isOpen := false }
  | some .start => { p with isOpen := false, startKind := kind }
  | some .last => { p with isOpen := false, lastKind := kind }

/-- The OPEN span closes (R121). Closing sets the gap count to 0. -/
def MapUnit.closeOpen (kind : EdgeKind) (m : MapUnit) : MapUnit :=
  match m.openSpan with
  | none => m
  | some _ =>
    { m with spans := m.spans.map (fun p => if p.isOpen then p.closeWith kind m.growing else p),
             growing := none, gapCount := 0 }

/-! ## Taking a report (R113) -/

/-- The refined pitch of an extension against the far anchor (R113). -/
def Span.refinePitch (p : Span) (r far : Stamp) : Int :=
  if 64 ≤ mag (r.address - far.address)
  then clampPitch (roundDiv (mag (r.length - far.length) * 1024) (mag (r.address - far.address)))
  else p.pitch

/-- An extension at the end (R113). -/
def Span.extendLast (p : Span) (r : Stamp) : Span :=
  let pitch := p.refinePitch r { address := p.startAddr, length := p.startLen }
  { p with pitch := pitch, lastLen := r.length, lastKind := .edge }

/-- An extension at the start (R113): the end address keeps its value. DEDUCED, unsafe: log entry 20. -/
def Span.extendStart (p : Span) (r : Stamp) : Span :=
  let pitch := p.refinePitch r { address := p.lastAddr, length := p.lastLen }
  { p with pitch := pitch, startLen := r.length,
           startAddr := p.lastAddr - roundDiv ((p.lastLen - r.length) * 1024) pitch, startKind := .edge }

/-- The changes of an extension (R124). -/
def extensionChanges (old new : Span) : List Change :=
  .extended new.num :: (if old.pitch = new.pitch then [] else [.refined new.num])

/-- The OPEN span takes a report (R113): the span, its growing edge and the changes. -/
def Span.take (p : Span) (growing : Option SpanEdge) (r : Stamp) : Span × Option SpanEdge × List Change :=
  let p := { p with anchors := capAnchors (p.anchors + 1) }
  if p.lastLen < r.length then
    let q := p.extendLast r
    (q, some .last, extensionChanges p q)
  else if r.length < p.startLen then
    let q := p.extendStart r
    (q, some .start, extensionChanges p q)
  else (p, growing, [])

/-! ## Overlap resolution (R117 to R120) -/

/-- The work of an overlap resolution: the OPEN span with its growing edge, the neighbours already resolved (by start length),
the changes, and whether a split part found no number. -/
structure Resolving where
  span : Span
  growing : Option SpanEdge
  done : List Span
  changes : List Change
  mapFull : Bool
  deriving DecidableEq, Repr

/-- The merge of the OPEN span `p` and a consistent neighbour `q` (R118). At equal start lengths the OPEN span counts as
the lower (log entry 6). -/
def mergeSpans (p q : Span) : Span :=
  let lower := if p.startLen ≤ q.startLen then p else q
  let higher := if p.startLen ≤ q.startLen then q else p
  let far := if higher.lastLen < lower.lastLen then lower else higher
  let e := far.lastAddr
  { num := lower.num, startLen := lower.startLen, lastLen := far.lastLen, startAddr := lower.startAddr,
    pitch :=
      if 64 ≤ e - lower.startAddr
      then clampPitch (roundDiv ((far.lastLen - lower.startLen) * 1024) (e - lower.startAddr))
      else nominalPitch
    anchors := capAnchors (p.anchors + q.anchors), isOpen := true, startKind := lower.startKind,
    lastKind := far.lastKind }

/-- The growing edge after a merge: kept when that edge of the OPEN span is still an edge of the merged span (R118), which is
when the OPEN span supplied the merged span's edge. At equal end lengths the higher span supplies the end, so the growing
end of an OPEN span that is the lower is dropped. DESIGN CHOICE, unsafe: log entry 6. -/
def mergedGrowing (p q : Span) (growing : Option SpanEdge) : Option SpanEdge :=
  match growing with
  | none => none
  | some .start => if p.startLen ≤ q.startLen then some .start else none
  | some .last =>
    if (p.startLen ≤ q.startLen ∧ q.lastLen < p.lastLen) ∨ (q.startLen < p.startLen ∧ q.lastLen ≤ p.lastLen)
    then some .last else none

/-- The changes of a merge (R118, R124): MERGED, then EXTENDED when the survivor's end moved and REFINED when its pitch
changed. The survivor is the lower span, which keeps its start. -/
def mergeChanges (p q : Span) : List Change :=
  let m := mergeSpans p q
  let survivor := if p.startLen ≤ q.startLen then p else q
  let absorbed := if p.startLen ≤ q.startLen then q else p
  .merged survivor.num absorbed.num
    :: ((if m.lastLen = survivor.lastLen then [] else [.extended m.num])
      ++ (if m.pitch = survivor.pitch then [] else [.refined m.num]))

/-- A merge as a step of the resolution. -/
def Resolving.merge (w : Resolving) (q : Span) : Resolving :=
  { w with span := mergeSpans w.span q, growing := mergedGrowing w.span q w.growing,
           changes := w.changes ++ mergeChanges w.span q }

/-- A part left after a cut or split stays when it is at least 80 counts long (R119, R120). -/
def Span.longEnough (p : Span) : Bool := decide (80 ≤ p.lastLen - p.startLen)

/-- The neighbour's part before the OPEN span (R119, R120). -/
def Span.cutLast (q p : Span) : Span := { q with lastLen := p.startLen - 1, lastKind := .cut }

/-- The neighbour's part after the OPEN span, its start address being its own prediction before the cut (R119, R120). -/
def Span.cutStart (q p : Span) : Span :=
  { q with startLen := p.lastLen + 1, startAddr := q.predict (p.lastLen + 1), startKind := .cut }

/-- A part kept under its own number when long enough, else removed (R119). -/
def Resolving.keep (w : Resolving) (part : Span) : Resolving :=
  if part.longEnough then { w with done := w.done ++ [part], changes := w.changes ++ [.cut part.num] }
  else { w with changes := w.changes ++ [.removed (some part.num)] }

/-- The upper part of a split under the lowest free number (R120); `rest` are the neighbours still to come. A part that is
too short, or finds no number, is removed and announced so (R124); MAP_FULL is raised for one that would have been kept. The
lower part has been dealt with by then, so the number that a lower part removed as too short has freed counts as free here.
DESIGN CHOICE, unsafe: log entry 6. -/
def Resolving.keepUpper (w : Resolving) (rest : List Span) (part : Span) : Resolving :=
  match freeNum (w.span :: (w.done ++ rest)), part.longEnough with
  | some n, true => { w with done := w.done ++ [{ part with num := n, isOpen := false }],
                             changes := w.changes ++ [.created n] }
  | none, true => { w with changes := w.changes ++ [.removed none], mapFull := true }
  | num, false => { w with changes := w.changes ++ [.removed num] }

/-- One neighbour resolved (R117): merged, removed, cut or split. A span that shares no length is left as it is. R120 does not
order the parts of a split: here the lower part is kept or removed first, and the upper part takes its number after that.
DESIGN CHOICE, unsafe: log entry 6. -/
def Resolving.step (w : Resolving) (rest : List Span) (q : Span) : Resolving :=
  let p := w.span
  if !p.shares q then { w with done := w.done ++ [q] }
  else
    let meet := max p.startLen q.startLen
    if mag (p.predict meet - q.predict meet) ≤ 2 then w.merge q
    else if q.startLen < p.startLen then
      if p.lastLen < q.lastLen then (w.keep (q.cutLast p)).keepUpper rest (q.cutStart p)
      else w.keep (q.cutLast p)
    else if p.lastLen < q.lastLen then w.keep (q.cutStart p)
    else { w with changes := w.changes ++ [.removed (some q.num)] }

/-- Every neighbour resolved in order of increasing start length (R117). -/
def Resolving.run (w : Resolving) : List Span → Resolving
  | [] => w
  | q :: rest => (w.step rest q).run rest

/-- The overlap resolution of the OPEN span `p` against the other spans (R117). -/
def resolveOverlaps (p : Span) (growing : Option SpanEdge) (others : List Span) : Resolving :=
  Resolving.run { span := p, growing := growing, done := [], changes := [], mapFull := false } others

/-- A finished resolution as a map. -/
def Resolving.finish (w : Resolving) (m : MapUnit) (changes : List Change) : Learned :=
  { map := { m with spans := insertSpan w.span w.done, growing := w.growing }
    changes := changes ++ w.changes
    mapFull := w.mapFull }

/-! ## The four cases (R112) -/

/-- The OPEN span `p` takes a report and its overlaps are resolved (R113, R117); `others` are the remaining spans. -/
def MapUnit.openTakes (m : MapUnit) (p : Span) (growing : Option SpanEdge) (others : List Span) (r : Stamp) : Learned :=
  let t := p.take growing r
  (resolveOverlaps t.1 t.2.1 others).finish m t.2.2

/-- Whether `q` is the better covering span for a length (R114): containing it, else nearer; the earlier span of the list has
the lower start length and wins a tie. -/
def betterCover (l : Int) (best : Option Span) (q : Span) : Option Span :=
  match best with
  | none => some q
  | some p => if q.distance l < p.distance l then some q else some p

/-- The CLOSED span that covers the report and is consistent with it (R112 case 2, R114). -/
def MapUnit.covering (m : MapUnit) (r : Stamp) : Option Span :=
  ((m.closed.filter (fun p => p.covers r.length && p.consistent r))).foldl (betterCover r.length) none

/-- Case 2 (R114): the OPEN span closes with JUMP, the covering span opens and takes the report. -/
def MapUnit.reopen (m : MapUnit) (q : Span) (r : Stamp) : Learned :=
  let m := m.closeOpen .jump
  let others := m.spans.filter (fun p => p.num != q.num)
  m.openTakes { q with isOpen := true } none others r

/-- A report is consistent with the candidate (R115). -/
def Stamp.pairs (c r : Stamp) : Bool :=
  decide (r.address ≠ c.address)
    && decide (mag ((r.address - c.address) - roundDiv ((r.length - c.length) * 1024) nominalPitch) ≤ 2)

/-- The new span of case 3 before its edge kinds are set (R116). At equal lengths the candidate gives the start (log
entry 6). DESIGN CHOICE, unsafe: log entry 6. -/
def newSpan (n : Nat) (c r : Stamp) : Span :=
  let low := if r.length < c.length then r else c
  let high := if r.length < c.length then c else r
  { num := n, startLen := low.length, lastLen := high.length, startAddr := low.address, pitch := nominalPitch,
    anchors := 2, isOpen := true, startKind := .edge, lastKind := .edge }

/-- The edge kinds of the new span against the list as it stands after the overlap resolution (R116 step 5). An edge that a
merge moved to another length than the new span's own keeps the kind the merge gave it; an edge at the new span's own length is
set afresh, also where a merge took it from an older span with an end at that same length.
DESIGN CHOICE, unsafe: log entry 6. -/
def Span.setKinds (p created : Span) (others : List Span) : Span :=
  let before := others.any (fun q => decide (p.startLen - 80 ≤ q.lastLen) && decide (q.lastLen ≤ p.startLen - 1))
  let after := others.any (fun q => decide (p.lastLen + 1 ≤ q.startLen) && decide (q.startLen ≤ p.lastLen + 80))
  { p with
    startKind := if p.startLen = created.startLen then (if before then .jump else .edge) else p.startKind
    lastKind := if p.lastLen = created.lastLen then (if after then .jump else .edge) else p.lastKind }

/-- A span qualifies for eviction (R122, R149): CLOSED and held by no mark. -/
def Span.evictable (held : Nat → Bool) (p : Span) : Bool := !p.isOpen && !held p.num

/-- The farther of two spans from the head; the earlier of the list, with the lower start length, wins a tie (R122). -/
def fartherSpan (head : Int) (best : Option Span) (q : Span) : Option Span :=
  match best with
  | none => some q
  | some p => if p.distance head < q.distance head then some q else some p

/-- The span to evict (R122). -/
def MapUnit.evictee (m : MapUnit) (held : Nat → Bool) (head : Int) : Option Span :=
  (m.spans.filter (Span.evictable held)).foldl (fartherSpan head) none

/-- Case 3 with room in the list (R116). -/
def MapUnit.create (m : MapUnit) (c r : Stamp) (changes : List Change) : Learned :=
  let m := { m.closeOpen .jump with candidate := none }
  match freeNum m.spans with
  | none => { map := m, changes := changes, mapFull := true }
  | some n =>
    let p := newSpan n c r
    let w := resolveOverlaps p none m.spans
    let w := { w with span := w.span.setKinds p w.done }
    w.finish m (changes ++ [.created n])

/-- Case 3 (R116, R122, R123): at capacity a span is evicted, or the creation is refused with MAP_FULL. -/
def MapUnit.createOrFull (m : MapUnit) (held : Nat → Bool) (head : Int) (c r : Stamp) : Learned :=
  if m.spans.length < Config.maxSpans then m.create c r []
  else
    match m.evictee held head with
    | none => { map := { m with candidate := none }, changes := [], mapFull := true }
    | some q => { m with spans := m.spans.filter (fun p => p.num != q.num) }.create c r [.evicted q.num]

/-- Learning from one accepted report by the first case that applies (R112); each accepted report sets the gap count to 0
(R121). `held` says which spans the marks hold. -/
def MapUnit.learn (m : MapUnit) (held : Nat → Bool) (head : Int) (r : Stamp) : Learned :=
  let m := { m with gapCount := 0 }
  match m.openSpan.filter (fun p => p.consistent r) with
  | some p => m.openTakes p m.growing m.closed r
  | none =>
    match m.covering r with
    | some q => m.reopen q r
    | none =>
      match m.candidate.filter (fun c => c.pairs r) with
      | some c => m.createOrFull held head c r
      | none => { map := { m with candidate := some r }, changes := [], mapFull := false }

/-! ## Other map events -/

/-- Every span forgotten, the candidate discarded and the gap count 0 (R126, R127). -/
def MapUnit.flush (m : MapUnit) : Learned :=
  { map := { m with spans := [], growing := none, candidate := none, gapCount := 0 }
    changes := m.spans.map (fun p => .removed (some p.num))
    mapFull := false }

/-- A link error counted (R106). -/
def MapUnit.linkError (m : MapUnit) : MapUnit := { m with linkErrors := min (m.linkErrors + 1) 255 }

/-- The gap count at a roller count (R121): it runs while a span is OPEN, in the reading set, at or below the report speed
limit, and stands at 320 until the span closes. -/
def MapUnit.countGap (runs : Bool) (m : MapUnit) : MapUnit :=
  if runs && m.openSpan.isSome then { m with gapCount := min (m.gapCount + 1) 320 } else m

/-- What a change of state or phase does to the map (R121): leaving the reading set closes the OPEN span with EDGE and
discards the candidate. -/
def MapUnit.onChange (old new : Transport) (m : MapUnit) : MapUnit :=
  if old.reading && !new.reading then { m.closeOpen .edge with candidate := none } else m

/-! ## Reading the map (R125, R161) -/

/-- The span whose length range contains a length. -/
def spanAt (spans : List Span) (l : Int) : Option Span := spans.find? (fun p => p.hasLength l)

/-- The head address (R125): absent when the head length is absent or no span contains it.
DEDUCED, unsafe: log entry 20. -/
def headAddress (spans : List Span) (head : Option Int) : Option Int :=
  head.bind (fun h => (spanAt spans h).map (fun p => p.predict h))

/-- The pitch that the newest report carries (R161). -/
def pitchAt (spans : List Span) (l : Int) : Int :=
  match spanAt spans l with
  | some p => p.pitch
  | none => nominalPitch

/-- The distance of an address from a span that does not hold it (R157, nearest span). -/
def Span.addressDistance (p : Span) (a : Int) : Int := if a < p.startAddr then p.startAddr - a else a - p.lastAddr

/-- The nearest of two spans to an address; the earlier of the list, with the lower start length, wins a tie (R157). -/
def nearerSpan (a : Int) (best : Option Span) (q : Span) : Option Span :=
  match best with
  | none => some q
  | some p => if q.addressDistance a < p.addressDistance a then some q else some p

/-- The nearest span to an address that no span holds (R157). -/
def nearestSpan (spans : List Span) (a : Int) : Option Span := spans.foldl (nearerSpan a) none

end Sys2Proof.Machine
end

