-- ==== Sys2Proof/Machine/Marks.lean ====
section
/-! DEFINITION. The mark table (chapter 7) as a list of records by increasing number: resolution, re-resolution at an
announcement, confirmation, and what the marks hold for the map unit. -/

namespace Sys2Proof.Machine

/-! ## Resolution (R134) -/

/-- The resolution of an address against the span list (R134). The resolved length is stored as R111 translates it, also where
rounding takes it past the range that R131 gives. DEDUCED, unsafe: log entry 37. -/
def resolve (spans : List Span) (a : Int) : Resolution :=
  match spans.filter (fun p => p.hasAddress a) with
  | [] => .unresolved
  | [p] => .resolved p.num (p.lengthOf a)
  | ps => .ambiguous (ps.map (fun p => p.num))

/-! ## Re-resolution at an announcement (R135 to R137) -/

/-- The successor of a span over one change (R136). -/
def followChange (n : Option Nat) (c : Change) : Option Nat :=
  match n with
  | none => none
  | some n =>
    match c with
    | .merged survivor absorbed => if n = absorbed then some survivor else some n
    | .evicted m | .removed (some m) => if n = m then none else some n
    | .created _ | .extended _ | .refined _ | .cut _ | .removed none => some n

/-- The successor span of an event's announcement (R136): none when the span was removed or evicted. -/
def successor (changes : List Change) (n : Nat) : Option Nat := changes.foldl followChange (some n)

/-- The resolution a mark takes at an announcement (R135, R136): a CONFIRMED mark keeps its confirmation on its successor span
within 40 counts. -/
def reResolve (spans : List Span) (changes : List Change) (a : Int) (old : Resolution) : Resolution :=
  match old, resolve spans a with
  | .confirmed n l, .resolved n' l' =>
    if successor changes n = some n' ∧ mag (l' - l) ≤ 40 then .confirmed n' l' else .resolved n' l'
  | _, new => new

/-- A mark has fallen (R137). -/
def Resolution.fellTo (old new : Resolution) : Bool :=
  match old, new with
  | .confirmed _ _, .confirmed _ _ => false
  | .confirmed _ _, _ => true
  | .resolved _ _, .ambiguous _ | .resolved _ _, .unresolved => true
  | _, _ => false

/-- One mark at an announcement. -/
def Mark.announced (spans : List Span) (changes : List Change) (m : Mark) : Mark :=
  { m with resolution := reResolve spans changes m.address m.resolution }

/-- The mark falls at an announcement (R137). -/
def Mark.falls (spans : List Span) (changes : List Change) (m : Mark) : Bool :=
  m.resolution.fellTo (reResolve spans changes m.address m.resolution)

/-! ## Confirmation (R138) -/

/-- A report confirms a mark (R138). -/
def Mark.confirmedBy (window : Int) (r : Stamp) (m : Mark) : Mark :=
  match m.resolution with
  | .resolved n l =>
    if mag (r.address - m.address) ≤ 1 ∧ mag (r.length - l) ≤ window * 40
    then { m with resolution := .confirmed n l } else m
  | _ => m

/-! ## What the marks hold (R149) -/

/-- A mark holds a span (R149). -/
def Mark.holds (n : Nat) (m : Mark) : Bool :=
  match m.resolution with
  | .unresolved => false
  | .resolved k _ | .confirmed k _ => k == n
  | .ambiguous ks => ks.contains n

/-- A span is held by the table (R149). -/
def heldBy (marks : List Mark) (n : Nat) : Bool := marks.any (Mark.holds n)

/-! ## The table (R130) -/

/-- The mark with a number. -/
def markAt (marks : List Mark) (n : Nat) : Option Mark := marks.find? (fun m => m.number == n)

/-- A mark put in its place by number. -/
def insertMark (m : Mark) : List Mark → List Mark
  | [] => [m]
  | q :: rest => if m.number < q.number then m :: q :: rest else q :: insertMark m rest

/-- The mark with a number changed. -/
def changeMark (n : Nat) (f : Mark → Mark) (marks : List Mark) : List Mark :=
  marks.map (fun m => if m.number = n then f m else m)

/-- The lowest free mark number (R133). -/
def freeMark (marks : List Mark) : Option Nat :=
  (List.range Config.maxMarks).find? (fun n => !marks.any (fun m => m.number == n))

/-- A trim clamped to its range (R131). -/
def clampTrim (t : Int) : Int := clampTo (-4096) 4095 t

/-- A new mark: unlocked, owned by the port that placed it, resolved against the map (R139). -/
def newMark (spans : List Span) (port : Port) (n : Nat) (a trim : Int) : Mark :=
  { number := n, address := a, trim := clampTrim trim, owner := port, lock := false, resolution := resolve spans a }

/-- MOVE_MARK on one mark (R135, R141): a move to the address it holds leaves it as it stands. -/
def Mark.moveTo (spans : List Span) (a : Int) (m : Mark) : Mark :=
  if a = m.address then m else { m with address := a, resolution := resolve spans a }

/-- The span and resolved length of a mark, present in RESOLVED and CONFIRMED (R131). -/
def Resolution.place : Resolution → Option (Nat × Int)
  | .resolved n l | .confirmed n l => some (n, l)
  | .unresolved | .ambiguous _ => none

/-- The candidates of a mark, none unless AMBIGUOUS (R131). -/
def Resolution.candidates : Resolution → List Nat
  | .ambiguous ks => ks
  | .unresolved | .resolved _ _ | .confirmed _ _ => []

/-- The candidates of a mark with the length of its address in each, in list order (R146, R157). -/
def Mark.candidateLengths (spans : List Span) (m : Mark) : List (Nat × Int) :=
  m.resolution.candidates.filterMap (fun n => (spanByNum spans n).map (fun p => (n, p.lengthOf m.address)))

/-- RETIRE_MARKS takes a mark by port and scope (R145). -/
def Mark.retiredBy (port : Port) (all : Bool) (m : Mark) : Bool :=
  match port, all with
  | .panel, true => true
  | .panel, false => m.owner == .panel
  | .studio, false => m.owner == .studio
  | .studio, true => m.owner == .studio || !m.lock

end Sys2Proof.Machine
end

