-- ==== Sys2Proof/Machine/Tension.lean ====
section
/-! DEFINITION. The tension servo (chapter 2): the drive word of a reel axis term by term, its counts, and what a change of
transport state does to it. -/

namespace Sys2Proof.Machine

/-- The stored value of a parameter (R32, R59, R202). -/
def paramOf (ps : List Int) (n : Nat) : Int := ps.getD n 0

/-- What one servo period of an axis reads from the other blocks (R26). -/
structure AxisInputs where
  reel : Reel
  c : Int
  j : Int
  accel : Int
  vRef : Int
  vMeas : Int
  target : Int
  speedTerm : Bool
  params : List Int
  deriving DecidableEq, Repr

/-! ## Setpoint (R23, R24) -/

/-- The value of a tension choice (R23). -/
def TensionChoice.value (ps : List Int) : TensionChoice → Int
  | .stop => paramOf ps Param.stopTension
  | .play => paramOf ps Param.playTension
  | .wind => paramOf ps Param.windTension
  | .zero => 0

/-- T after the ramp of one period (R24). -/
def AxisInputs.ramp (x : AxisInputs) (a : Axis) : Int := toward x.target (paramOf x.params Param.tensionRamp) a.tension

/-! ## Drive word (R22, R27 to R31) -/

/-- The arm centre of an axis (R22). -/
def armCentre (ps : List Int) (r : Reel) : Int := paramOf ps (r.pick Param.supplyCentre Param.takeupCentre)

/-- The drive limit of an axis (R31). -/
def driveLimit (ps : List Int) (r : Reel) : Int := paramOf ps (r.pick Param.supplyLimit Param.takeupLimit)

/-- FF (R27). -/
def AxisInputs.feedforward (x : AxisInputs) (tension : Int) : Int :=
  roundDiv (tension * x.c * paramOf x.params (x.reel.pick Param.supplyTorque Param.takeupTorque)) 65536

/-- P (R28). -/
def AxisInputs.proportional (x : AxisInputs) (e : Int) : Int := -roundDiv (e * paramOf x.params Param.kp) 256

/-- One integrator addition under conditional integration (R29, R53): skipped when it pushes further into the clamp recorded
by the previous computed period. -/
def integrate (clamp : Clamp) (addition acc : Int) : Int :=
  if (clamp = .high ∧ 0 < addition) ∨ (clamp = .low ∧ addition < 0) then acc
  else clampTo (-33554432) 33554432 (acc + addition)

/-- Q (R30). -/
def AxisInputs.inertiaTerm (x : AxisInputs) : Int := roundDiv (x.accel * x.j) (x.c * 256)

/-- S (R30). -/
def AxisInputs.speedTermValue (x : AxisInputs) : Int :=
  if x.speedTerm then roundDiv ((x.vRef - x.vMeas) * paramOf x.params Param.kv) 256 else 0

/-- The clamp direction of a raw word against a limit (R31, R53). -/
def clampDir (limit raw : Int) : Clamp :=
  if limit < raw then .high else if raw < -limit then .low else .none

/-- D_raw (R31): Q and S are added on the takeup axis and subtracted on the supply axis. -/
def AxisInputs.rawWord (x : AxisInputs) (tension e integ : Int) : Int :=
  x.feedforward tension + x.proportional e + roundDiv integ 4096
    + x.reel.tapeSign * (x.inertiaTerm + x.speedTermValue)

/-- A saturation count after a computed period (R34, R54), and whether it reached 250. -/
def countSaturation (clamp : Clamp) (n : Nat) : Nat × Bool :=
  if clamp = .none then (0, false) else if n + 1 = 250 then (0, true) else (n + 1, false)

/-- A computed period after the arm reading and the ramp (R26 to R31, R34), and whether the saturation count reached
250. -/
def AxisInputs.compute (x : AxisInputs) (a : Axis) : Axis × Bool :=
  let e := a.arm - armCentre x.params x.reel
  let integ := integrate a.clamp (-e * paramOf x.params Param.ki) a.integ
  let raw := x.rawWord a.tension e integ
  let limit := driveLimit x.params x.reel
  let dir := clampDir limit raw
  let sat := countSaturation dir a.satCount
  ({ a with integ := integ, word := clampTo (-limit) limit raw, clamp := dir, satCount := sat.1 }, sat.2)

/-- Release (R25). -/
def Axis.release (a : Axis) : Axis :=
  { a with word := 0, integ := 0, clamp := .none, satCount := 0, released := true }

/-- A count of consecutive periods with its limit (R36, R37, R58, R176): 0 and raised when it reaches the limit. -/
def countConsecutive (limit : Nat) (hit : Bool) (n : Nat) : Nat × Bool :=
  if !hit then (0, false) else if n + 1 = limit then (0, true) else (n + 1, false)

/-- What a servo period of an axis raised. -/
structure AxisRaised where
  low : Bool
  high : Bool
  saturation : Bool
  released : Bool
  deriving DecidableEq, Repr

/-- Nothing raised. -/
def AxisRaised.nothing : AxisRaised := { low := false, high := false, saturation := false, released := false }

/-- The low and high counts of one period in the counting states (R36, R37). -/
def Axis.countArm (ps : List Int) (a : Axis) : Axis × Bool × Bool :=
  let low := countConsecutive 20 (decide (a.arm < paramOf ps Param.armLow)) a.lowCount
  let high := countConsecutive 5 (decide (paramOf ps Param.armHigh < a.arm)) a.highCount
  ({ a with lowCount := low.1, highCount := high.1 }, low.2, high.2)

/-- The word part of a servo period that is not forced (R24 to R31): ramp, then release in UNTHREADING at T = 0, or the
computed word. A released axis holds its word at 0. -/
def AxisInputs.drive (x : AxisInputs) (unthreading : Bool) (a : Axis) : Axis × AxisRaised :=
  if a.released then (a, .nothing)
  else
    let a := { a with tension := x.ramp a }
    if unthreading ∧ a.tension = 0 then (a.release, { AxisRaised.nothing with released := true })
    else
      let w := x.compute a
      (w.1, { AxisRaised.nothing with saturation := w.2 })

/-- One servo period of an axis (R21, R26, R33, R36, R37) in the transport state `t`. -/
def AxisInputs.period (x : AxisInputs) (t : Transport) (arm : Int) (a : Axis) : Axis × AxisRaised :=
  let a := { a with arm := arm }
  if t.isForced then (a, .nothing)
  else
    let d := x.drive (t == .unthreading) a
    if t.counting then
      let k := d.1.countArm x.params
      (k.1, { d.2 with low := k.2.1, high := k.2.2 })
    else d

/-! ## Threading test (R38) -/

/-- An arm lies within its tension band (R22). -/
def inBand (ps : List Int) (r : Reel) (arm : Int) : Bool := decide (mag (arm - armCentre ps r) ≤ 200)

/-- The first axis, supply then takeup, whose arm lies outside its band (R38). -/
def Tension.firstOut (ps : List Int) (t : Tension) : Option Reel :=
  if !inBand ps .supply t.axes.supply.arm then some .supply
  else if !inBand ps .takeup t.axes.takeup.arm then some .takeup
  else none

/-- The axis that R38 states for the threading timer's TENSION_LOSS: the first axis out of band, else the one found at the last
test; none when the rule states no axis. The bands are those of the arm centres that stand at the expiry, also where an arm
centre has changed since the last test and R38's two sentences name different axes. DEDUCED, unsafe: log entry 36. -/
def Tension.lossAxis (ps : List Int) (t : Tension) : Option Reel :=
  match t.firstOut ps with
  | some r => some r
  | none => t.outAtLastTest

/-! ## Changes of transport state (R33, R36 to R39) -/

/-- Forcing (R33): the word and the axis state are cleared, and the arm reading stays. -/
def Axis.force (a : Axis) : Axis := { Axis.reset with arm := a.arm }

/-- The low and high counts set to 0 (R36, R37). -/
def Axis.clearArmCounts (a : Axis) : Axis := { a with lowCount := 0, highCount := 0 }

/-- What a change of transport state or phase does to the tension servo. -/
def Tension.onChange (old new : Transport) (t : Tension) : Tension :=
  if old.sameState new then t
  else
    let t := if new.isForced then { t with axes := t.axes.map Axis.force } else t
    let t := if old.counting = new.counting then t else { t with axes := t.axes.map Axis.clearArmCounts }
    { t with threadingTimer := new == .threading, outAtLastTest := none }

/-- CLEAR_FAULT on the tension servo (R39). -/
def Axis.clearFault (a : Axis) : Axis :=
  { a with integ := 0, satCount := 0, lowCount := 0, highCount := 0, clamp := .none }

/-- A changed drive limit clamps the held word at once (R31). -/
def Axis.clampWord (limit : Int) (a : Axis) : Axis := { a with word := clampTo (-limit) limit a.word }

end Sys2Proof.Machine
end

