-- ==== Sys2Proof/Machine/Speed.lean ====
section
/-! DEFINITION. The speed unit (chapter 3): measurement histories, the profile generator, decelerations, the capstan loop,
and what a change of state or phase does to it. -/

namespace Sys2Proof.Machine

/-! ## Measurement (R43, R44) -/

/-- A count entering a history. -/
def History.count (n : Int) (h : History) : History := { h with running := h.running + n }

/-- The history at a generator period: the net count since the last period enters, the oldest entry leaves (R43). -/
def History.advance (h : History) : History := { running := 0, periods := h.periods.drop 1 ++ [h.running] }

/-- The measured rate: truncate(sum × 125 / 2) (R43, R44). -/
def History.rate (h : History) : Int := truncDiv (h.periods.sum * 125) 2

/-- The histories advanced and the measured speeds formed (R46 step 1). -/
def Speed.measure (v : Speed) : Speed :=
  let roller := v.roller.advance
  let capstan := v.capstan.advance
  let reels := v.reels.map History.advance
  { v with roller := roller, capstan := capstan, reels := reels, vMeas := roller.rate, vCap := capstan.rate,
           reelRate := reels.map History.rate }

/-! ## Profile generator (R46 to R50) -/

/-- The capstan target at a ratio (R49). -/
def capstanTarget (ps : List Int) (ratio : Int) : Int := roundDiv (paramOf ps Param.playSpeed * ratio) 4096

/-- The acceleration step (R46, R51). -/
def accelStep (ps : List Int) (t : Transport) : Int :=
  if t = .protectStop then roundDiv (paramOf ps Param.protectDecel) 1000 else roundDiv (paramOf ps Param.accelLimit) 1000

/-- The stopping distance s from v_ref (R48). -/
def stopDistance (ps : List Int) (vRef : Int) : Int :=
  truncDiv (vRef * vRef) (2 * paramOf ps Param.accelLimit) + truncDiv (mag vRef) 1000

/-- A requested signed speed bounded by the reference bound, with its sign kept (R47). -/
def boundedSpeed (ps : List Int) (g : Geometry) (target vRef requested : Int) : Int :=
  requested.sign
    * g.boundSpeed (paramOf ps Param.endMargin) (paramOf ps Param.endSpeed) target vRef
        (min (mag requested) (paramOf ps Param.windSpeed))

/-- Rules 1 and 2 of R48: the tape has run past the point, or the point lies within the stopping distance. -/
def mustStop (ps : List Int) (vRef r : Int) : Bool :=
  decide (vRef ≠ 0 ∧ vRef.sign = -r.sign) || decide (mag r ≤ stopDistance ps vRef)

/-- The remaining distance r to a stopping point (R48). The head length is defined in every state that has one. -/
def Geometry.remaining (g : Geometry) (point : Int) : Int := point - g.head.getD 0

/-- The completion test of R48 on the remaining distance r: v_ref 0, with |r| ≤ 2 in mode REEL and r ≤ 2 in mode CAPSTAN. -/
def Speed.atPoint (v : Speed) (r : Int) : Bool :=
  decide (v.vRef = 0) && (if v.mode = .reel then decide (mag r ≤ 2) else decide (r ≤ 2))

/-- The target of a motion with a stopping point (R48). In the first period of its phase the tape does not set off when the
completion test is already met (R160, R164); in any later one rule 3 stands. DEDUCED, unsafe: log entry 30. -/
def Speed.pointTarget (ps : List Int) (g : Geometry) (v : Speed) (point : Int) : Int :=
  let r := g.remaining point
  if mustStop ps v.vRef r || (v.pointFresh && v.atPoint r) then 0
  else if v.mode = .reel then boundedSpeed ps g v.target v.vRef (r.sign * paramOf ps Param.windSpeed)
  else if r < 0 then 0
  else capstanTarget ps 4096

/-- The target speed of one generator period (R45, R47 to R51). -/
def Speed.nextTarget (ps : List Int) (g : Geometry) (t : Transport) (v : Speed) : Int :=
  match v.stopPoint with
  | some point => v.pointTarget ps g point
  | none =>
    match t with
    | .measuring .creep => boundedSpeed ps g v.target v.vRef (paramOf ps Param.creepSpeed)
    | .wind | .shuttle => boundedSpeed ps g v.target v.vRef v.requested
    | .play .running => capstanTarget ps (paramOf ps Param.varispeed)
    | .chase .rolling => capstanTarget ps v.chaseRatio
    | _ => 0

/-- One step of v_ref toward the target, with A (R46 steps 2 to 5). In FORCED v_ref is held at 0 (R60). A phase that heads
for a stopping point has had its first period then (R160). -/
def Speed.generate (ps : List Int) (g : Geometry) (t : Transport) (v : Speed) : Speed :=
  let target := v.nextTarget ps g t
  let vRef := toward target (accelStep ps t) v.vRef
  { v with target := target, vRef := vRef, accel := (vRef - v.vRef) * 1000, pointFresh := false }

/-- The completion test of R48, for a stopping point not yet reported. -/
def Speed.pointReached (g : Geometry) (v : Speed) : Bool :=
  match v.stopPoint with
  | none => false
  | some point => !v.pointReported && v.atPoint (g.remaining point)

/-- The rest test of R52, for a deceleration not yet reported at rest. -/
def Speed.restReached (v : Speed) : Bool :=
  decide (v.mode = .deceleration) && !v.restReported && decide (v.vRef = 0) && decide (mag v.vMeas ≤ 62)

/-- The overspeed test of one reel (R58): the count and whether it reached 5. A reel with no profile is not tested. -/
def overspeedTest (p : Option Profile) (rate : Int) (n : Nat) : Nat × Bool :=
  match p with
  | none => (n, false)
  | some p => countConsecutive 5 (decide (truncDiv (p.nmax * 9) 8 < mag rate)) n

/-! ## Capstan loop (R53 to R55) -/

/-- One computed period of the capstan loop (R53, R54), and whether its saturation count reached 250. -/
def CapstanLoop.period (ps : List Int) (vRef vCap : Int) (l : CapstanLoop) : CapstanLoop × Bool :=
  let e := vRef - vCap
  let integ := integrate l.clamp (e * paramOf ps Param.capstanKi) l.integ
  let raw := roundDiv (e * paramOf ps Param.capstanKp) 256 + roundDiv integ 4096
  let limit := paramOf ps Param.capstanLimit
  let dir := clampDir limit raw
  let sat := countSaturation dir l.satCount
  ({ integ := integ, word := clampTo (-limit) limit raw, clamp := dir, satCount := sat.1 }, sat.2)

/-! ## Changes of state and phase (R45, R51, R55, R60) -/

/-- The deceleration kind fixed at an entry to a DECELERATION mode, from the mode being left and v_ref (R51). R101 gives a
release the kind of the phase it leaves and names v_ref 0 at PARKED alone; R51's first line holds there too, so a release from
VERIFY at rest is AT_REST. DEDUCED, unsafe: log entry 33. -/
def Speed.fixKind (v : Speed) : DecelKind :=
  if v.vRef = 0 then .atRest
  else if v.mode = .capstan ∨ (v.mode = .deceleration ∧ v.kind = some .capstan) then .capstan
  else .reel

/-- Entry to FORCED (R60). -/
def Speed.force (v : Speed) : Speed :=
  { v with vRef := 0, target := 0, accel := 0, loop := .reset }

/-- The histories and measured speeds at the values of the reset table, as an entry to UNTHREADED through UNTHREADING gives
them (R60); they count on from there. DEDUCED, unsafe: log entry 10. -/
def Speed.clearMeasured (v : Speed) : Speed :=
  { v with roller := .reset, capstan := .reset, reels := ⟨.reset, .reset⟩, vMeas := 0, vCap := 0, reelRate := ⟨0, 0⟩ }

/-- What a change of transport state or phase does to the speed unit: the mode follows (R45), an entry to a deceleration
fixes its kind (R51), the capstan loop is cleared when it leaves the active state (R55), and a stopping point is released
until its owner gives the next one. v_ref and A carry over, except into FORCED (R60). The measurement histories run on,
except that an entry to UNTHREADED through UNTHREADING clears them (R60). An entry to APPROACH from an active state keeps the
loop as every change between active states does (R55); from an idle one it finds the loop cleared (R161).
DEDUCED, unsafe: log entry 35. -/
def Speed.onChange (old new : Transport) (v : Speed) : Speed :=
  if old = new then v
  else
    let kind := if new.genMode = .deceleration then some v.fixKind else none
    let v := if new.capstanActive kind then v else { v with loop := .reset }
    let v :=
      { v with mode := new.genMode, kind := kind, stopPoint := none, pointReported := false, pointFresh := false,
               restReported := false }
    let v := if new.isForced then v.force else v
    let v := if old = .unthreading ∧ new = .unthreaded then v.clearMeasured else v
    if new = .unthreaded then { v with overspeed := ⟨0, 0⟩ } else v

/-- A stopping point given by the locate unit (R48), at the start of a phase (`first`) or within it. -/
def Speed.giveStopPoint (first : Bool) (point : Int) (v : Speed) : Speed :=
  { v with stopPoint := some point, pointReported := false, pointFresh := first || v.pointFresh }

end Sys2Proof.Machine
end

