-- ==== Sys2Proof/Machine/Ops.lean ====
section
/-! DEFINITION. The operations shared by the commands: reading parameters, announcing a map change, and THE change of
transport state or phase, in which every block acts on the change as its own chapter gives (R61). -/

namespace Sys2Proof.Machine

/-- The stored value of a parameter (R202). -/
def State.param (s : State) (n : Nat) : Int := paramOf s.ports.params n

/-- The tape-path switch as it stands when a rule reads it (R65, R79, R176, R197). DESIGN CHOICE, safe: log entry 8. -/
def State.readSwitch (w : Switch) (s : State) : State := { s with tapePath := w }

/-! ## Named updates -/

/-- The active motion record replaced (R84). -/
def State.setActive (m : Option Motion) (s : State) : State := { s with arb := { s.arb with active := m } }

/-- A new active motion record (R84). -/
def State.setRecord (m : Motion) (s : State) : State := s.setActive (some m)

/-- The pending slot replaced (R91). -/
def State.setSlot (h : Option Held) (s : State) : State := { s with arb := { s.arb with slot := h } }

/-- The chase protocol state replaced (R94). -/
def State.setChase (c : ChaseState) (s : State) : State := { s with arb := { s.arb with chase := c } }

/-- The chase request line's level taken (R94). -/
def State.setChaseLine (high : Bool) (s : State) : State := { s with arb := { s.arb with chaseLine := high } }

/-- The return list replaced (R103). -/
def State.setReturns (rs : List ReturnEntry) (s : State) : State := { s with arb := { s.arb with returns := rs } }

/-- The active locate record replaced (R154). -/
def State.setLocate (r : LocateRecord) (s : State) : State := { s with locate := { s.locate with active := some r } }

/-- A stopping point given to the generator (R48), at the start of a phase (`first`) or within it. -/
def State.headToward (first : Bool) (point : Int) (s : State) : State :=
  { s with speed := s.speed.giveStopPoint first point }

/-- The chase ratio set (R50). -/
def State.setRatio (r : Int) (s : State) : State := { s with speed := { s.speed with chaseRatio := r } }

/-- The requested speed of a WIND or SHUTTLE (R47, R73). -/
def State.setRequested (v : Int) (s : State) : State := { s with speed := { s.speed with requested := v } }

/-- Creep cancelled set (R66). -/
def State.cancelCreep (s : State) : State := { s with seq := { s.seq with creepCancelled := true } }

/-- The geometry unit replaced. -/
def State.setGeom (g : Geometry) (s : State) : State := { s with geom := g }

/-- The map unit replaced. -/
def State.setMap (m : MapUnit) (s : State) : State := { s with map := m }

/-- The mark table replaced. -/
def State.setMarks (ms : List Mark) (s : State) : State := { s with marks := ms }

/-- The speed unit replaced. -/
def State.setSpeed (v : Speed) (s : State) : State := { s with speed := v }

/-- The raised events replaced (log entry 3). -/
def State.setDue (ds : List Due) (s : State) : State := { s with due := ds }

/-- The head length. It is defined in every state in which a rule reads it through this function (R1).
DESIGN CHOICE, safe: log entry 28. -/
def State.headNow (s : State) : Int := s.geom.head.getD 0

/-- A map event announced to the mark table (R124, R135, R137): every mark re-resolved, MARK_CHANGED when one fell. An event
without changes is not announced. -/
def State.announce (changes : List Change) (s : State) : State :=
  if changes.isEmpty then s
  else
    (s.setMarks (s.marks.map (Mark.announced s.map.spans changes))).raiseIf
      (s.marks.any (Mark.falls s.map.spans changes)) .markChanged

/-- A finished map event: the new map, its announcement and MAP_FULL (R123, R124). -/
def State.mapEvent (e : Learned) (s : State) : State :=
  ((s.setMap e.map).announce e.changes).raiseIf e.mapFull .mapFull

/-- The sequencer's own part of a change (R61, R62): state and phase, rest destination, timers, creep cancelled, outputs. -/
def Sequencer.onChange (new : Transport) (dest : Option RestDest) (settleTime : Int) (kind : Option DecelKind)
    (q : Sequencer) : Sequencer :=
  { q with
    transport := new
    restDest := dest
    creepCancelled := if new.isForced ∨ (new = .threading ∧ q.transport ≠ .threading) then false else q.creepCancelled
    settleTimer := if new = .settling then (if q.transport = .settling then q.settleTimer else some settleTime) else none
    engageTimer := if new = .play .engage then (if q.transport = .play .engage then q.engageTimer else true) else false
    outputs := new.outputs kind }

/-- THE change of transport state and phase (R61): in one change the sequencer takes the new state, phase and rest
destination, and every block that reads the state acts on it. A change to the state and phase that already stand changes
the rest destination alone. -/
def State.setTransport (new : Transport) (dest : Option RestDest) (s : State) : State :=
  let old := s.seq.transport
  let speed := s.speed.onChange old new
  { s with
    geom := s.geom.onChange old new
    tension := s.tension.onChange old new
    speed := speed
    seq := s.seq.onChange new dest (s.param Param.settleTime) speed.kind
    map := s.map.onChange old new
    locate := { s.locate with verifyTimer := s.locate.verifyTimer && (new.locatePhase == some .verify) }
    prot := { s.prot with tapeOut := if new.isForced then 0 else s.prot.tapeOut } }

/-- A raised event kept until it is taken as the event of its own row (log entry 3). -/
def State.raiseDue (b : Bool) (d : Due) (s : State) : State := if b then s.setDue (s.due ++ [d]) else s

/-- The pending slot emptied, with PENDING_DROPPED on the port of the request it held (R93). -/
def State.dropPending (s : State) : State :=
  match s.arb.slot with
  | none => s
  | some h => (s.setSlot none).raiseOn h.port .pendingDropped

/-- Entry to UNTHREADED (R81): every block's part of the change, the map flushed and announced (R126, R151), the return
list emptied (R105), no motion active (R84). -/
def State.enterUnthreaded (s : State) : State :=
  let s := ((s.setTransport .unthreaded none).setActive none).setReturns []
  s.mapEvent s.map.flush

/-- Entry to UNTHREADING (R80, R93). -/
def State.enterUnthreading (s : State) : State := (s.setTransport .unthreading none).dropPending

end Sys2Proof.Machine
end

