-- ==== Sys2Proof/Machine/Locate.lean ====
section
/-! DEFINITION. The locate unit (chapter 8), first part: the target, the choice of phase, the start of a locate and its end
by another event. Its run is in LocateRun.lean. -/

namespace Sys2Proof.Machine

/-! ## The target (R157, R158) -/

/-- The length nearer to the head; at equal distance the lower length (R157). -/
def nearerLength (head : Int) (best : Option Int) (l : Int) : Option Int :=
  match best with
  | none => some l
  | some b =>
    if mag (l - head) < mag (b - head) ∨ (mag (l - head) = mag (b - head) ∧ l < b) then some l else some b

/-- Of several lengths, the one nearest the head (R157). -/
def nearestLength (head : Int) (ls : List Int) : Option Int := ls.foldl (nearerLength head) none

/-- What a recompute finds: the aim length, the target address and the target state (R157). -/
structure Aim where
  length : Int
  address : Option Int
  state : Option TargetState
  deriving DecidableEq, Repr

/-- The aim at an address that no span holds: extrapolated through the nearest span (R157). -/
def extrapolated (spans : List Span) (a : Int) : Option Aim :=
  (nearestSpan spans a).map (fun p => { length := p.lengthOf a, address := some a, state := some .notInMap })

/-- The aim at an address held by the map at the given lengths (R157). -/
def heldAim (head : Int) (a : Int) (ls : List Int) : Option Aim :=
  (nearestLength head ls).map (fun l => { length := l, address := some a, state := some .inMap })

/-- The aim at a mark as it stands (R157). -/
def Mark.aim (spans : List Span) (head : Int) (m : Mark) : Option Aim :=
  match m.resolution with
  | .resolved _ l | .confirmed _ l => some { length := l, address := some m.address, state := some .inMap }
  | .ambiguous _ => heldAim head m.address ((m.candidateLengths spans).map (fun c => c.2))
  | .unresolved => extrapolated spans m.address

/-- The aim at an address (R157). -/
def addressAim (spans : List Span) (head : Int) (a : Int) : Option Aim :=
  match spans.filter (fun p => p.hasAddress a) with
  | [] => extrapolated spans a
  | ps => heldAim head a (ps.map (fun p => p.lengthOf a))

/-- What a recompute finds for a target; none when it finds nothing, as with an empty span list, and the previous values
stand (R157). DEDUCED, safe: log entry 24. -/
def State.aimOf (s : State) : LocateTarget → Option Aim
  | .mark n => (markAt s.marks n).bind (Mark.aim s.map.spans s.headNow)
  | .address a => addressAim s.map.spans s.headNow a
  | .length l => some { length := l, address := none, state := none }
  | .returnTo e => some { length := e.length, address := e.address, state := none }

/-- The offset of a target (R158); a mark no longer held keeps the previous one. DEDUCED, safe: log entry 24. -/
def State.offsetOf (s : State) (previous : Int) : LocateTarget → Int
  | .mark n =>
    match markAt s.marks n with
    | some m => m.trim - s.param Param.parkOffset
    | none => previous
  | .address _ | .length _ => -s.param Param.parkOffset
  | .returnTo _ => 0

/-- The target recomputed (R157, R158). The aim is stored as R157 extrapolates it, also outside the head length range; aim plus
offset is clamped. DEDUCED, unsafe: log entry 31. -/
def State.recompute (s : State) (r : LocateRecord) : LocateRecord :=
  let offset := s.offsetOf r.offset r.target
  match s.aimOf r.target with
  | none => { r with offset := offset, stopPoint := clampLength (r.aim + offset) }
  | some a =>
    { r with aim := a.length, targetAddr := a.address, targetState := a.state, offset := offset,
             stopPoint := clampLength (a.length + offset) }

/-- A locate that ends by reading (R154). -/
def LocateTarget.verifying : LocateTarget → Bool
  | .mark _ | .address _ => true
  | .length _ => false
  | .returnTo e => e.address.isSome

/-- The approach point (R158). -/
def State.approachPoint (s : State) (r : LocateRecord) : Int := r.stopPoint - s.param Param.approachDistance

/-! ## The phases (R159, R160, R165) -/

/-- The approach is entered at once (R159): the head lies within approach point..stopping point, and v_ref is 0, or positive
with the transport capstan-driven. -/
def State.approachAtOnce (s : State) (r : LocateRecord) : Bool :=
  decide (s.approachPoint r ≤ s.headNow) && decide (s.headNow ≤ r.stopPoint)
    && (decide (s.speed.vRef = 0)
        || (decide (0 < s.speed.vRef) && s.seq.transport.capstanActive s.speed.kind))

/-- The transport of a locate phase, in LOCATE or in CHASE LOCATING. -/
def locateTransport (inChase : Bool) (p : LocatePhase) : Transport := if inChase then .chase (.locating p) else .locate p

/-- The phase chosen at a start or a retry for a recomputed record (R159, R165): the approach at once, or reel-driven travel
(`back` is TRAVEL or REPOSITION) to the approach point, or for a non-verifying locate to the stopping point. -/
def State.choosePhase (inChase : Bool) (back : LocatePhase) (r : LocateRecord) (s : State) : State :=
  if r.target.verifying && s.approachAtOnce r then
    ((s.setTransport (locateTransport inChase .approach) none).setLocate { r with newest := none }).headToward
      true r.stopPoint
  else
    let point := if r.target.verifying then s.approachPoint r else r.stopPoint
    ((s.setTransport (locateTransport inChase back) none).setLocate r).headToward true point

/-- A new record before its first recompute (R154, R156). -/
def LocateRecord.fresh (target : LocateTarget) (limit : Nat) : LocateRecord :=
  { target := target, aim := 0, targetAddr := none, offset := 0, stopPoint := 0, targetState := none, retries := 0,
    limit := limit, newest := none, lastError := none }

/-- The start of a locate that has passed its tests (R156). -/
def State.startLocate (inChase : Bool) (target : LocateTarget) (s : State) : State :=
  s.choosePhase inChase .travel (s.recompute (.fresh target (s.param Param.retryLimit).toNat))

/-! ## The end of a locate by another event (R171, R172) -/

/-- The result written at the end of a locate (R154). -/
def State.resultOf (s : State) (r : LocateRecord) (o : LocateOutcome) : LocateResult :=
  { target := r.target, outcome := o, retries := r.retries, head := s.headNow, error := r.lastError }

/-- The active locate, if there is one, ended with an outcome (R154, R171, R172). It raises no flag. -/
def State.endLocate (o : LocateOutcome) (s : State) : State :=
  match s.locate.active with
  | none => s
  | some r =>
    { s with locate := { s.locate with active := none, result := some (s.resultOf r o), verifyTimer := false } }

end Sys2Proof.Machine
end

