-- ==== Sys2Proof/Machine/Arbiter.lean ====
section
/-! DEFINITION. The motion arbiter (chapter 5): the tests of a motion request, judging, starting, the pending slot, the chase
exchange, the return list, and the entry to STOPPED. -/

namespace Sys2Proof.Machine

/-- The status of a slot (R193). -/
inductive Status where
  | ok
  | clamped
  | pending
  | skipped
  | busy
  | lockedOut
  | badState
  | notPermitted
  | noTape
  | badProfile
  | inUse
  | noSuchMark
  | markExists
  | tableFull
  | locked
  | noMap
  | noAddress
  | empty
  | badOperand
  deriving DecidableEq, Repr

/-- The statuses that count as accepted (R192). -/
def Status.accepted : Status → Bool
  | .ok | .clamped | .pending => true
  | _ => false

/-! ## Sources, levels and records (R82, R84, R89) -/

/-- The source of a port's requests (R82). -/
def Port.source : Port → Source
  | .panel => .panel
  | .studio => .studio

/-- The level of a port's source as the parameter stands (R82). -/
def State.portLevel (s : State) : Port → Int
  | .panel => s.param Param.panelLevel
  | .studio => s.param Param.studioLevel

/-- The record kind of a motion request (R84, R89). CHASE_SPEED makes no record. -/
def MotionReq.kind : MotionReq → MotionKind
  | .stop => .stop
  | .play => .play
  | .wind _ => .wind
  | .shuttle _ => .shuttle
  | .locateMark _ | .locateAddress _ | .locateLength _ | .returnBack => .locate
  | .thread _ _ => .thread
  | .unthread => .unthread
  | .clearFault => .clearFault
  | .chaseSpeed _ => .chase

/-- The kinds whose start an asserted external stop line catches in LEVEL mode (R178). -/
def MotionKind.caught : MotionKind → Bool
  | .play | .wind | .shuttle | .locate | .chase => true
  | .thread | .clearFault | .stop | .unthread => false

/-- The start of a motion reported to the protection unit (R178): in LEVEL mode with the line asserted, EXT_STOP is the event
that follows (`State.takeCatches`, `State.nextRaised`). DEDUCED, unsafe: log entry 14. -/
def State.noteStart (k : MotionKind) (s : State) : State :=
  s.raiseDue (k.caught && s.prot.extStop && decide (s.param Param.extStopMode = 0)) .extStopCatch

/-- The level of the active motion record; 0 when absent, which no rule reads. -/
def State.recordLevel (s : State) : Int :=
  match s.arb.active with
  | some m => m.level
  | none => 0

/-- The record's kind made STOP, source and level kept: an end-of-tape halt or a locate failure (R89). -/
def State.recordStop (s : State) : State :=
  s.setActive (s.arb.active.map (fun m => { m with kind := .stop }))

/-! ## The chase exchange (R94 to R102) -/

/-- Entry to CHASE at a grant (R96): the record, GRANTED, the chase ratio at 4,096, and the start reported. -/
def State.enterChase (p : ChasePhase) (level : Int) (s : State) : State :=
  ((((s.setRecord { kind := .chase, source := .chase, level := level }).setChase .granted).setTransport
    (.chase p) none).setRatio 4096).noteStart .chase

/-- The record has a source other than CHASE (R96). -/
def State.otherSource (s : State) : Bool :=
  match s.arb.active with
  | some m => m.source != .chase
  | none => false

/-- A waiting chase request granted (R96). -/
def State.grantChase (s : State) : State :=
  let level := s.param Param.chaseLevel
  let s := (s.raiseIf s.otherSource .preempted).endLocate .preempted
  match s.seq.transport with
  | .stopped => s.enterChase .parked level
  | .play .running => s.enterChase .rolling level
  | _ =>
    ((s.setRecord { kind := .stop, source := .chase, level := level }).setChase .starting).setTransport .halting
      (some .chaseParked)

/-- The states from which a chase request may be granted over an active motion (R95). -/
def Transport.chaseMayPreempt : Transport → Bool
  | .play _ | .wind | .shuttle | .locate _ | .halting => true
  | _ => false

/-- The record leaves room for a chase at the given level (R95). -/
def State.roomForChase (s : State) (level : Int) : Bool :=
  match s.arb.active with
  | some m => m.kind != .unthread && decide (m.level < level)
  | none => true

/-- An examination grants a waiting request (R95). -/
def State.chaseGrantable (s : State) : Bool :=
  s.arb.chase == .waiting
    && decide (s.param Param.lockoutLevel ≤ s.param Param.chaseLevel)
    && (s.seq.transport == .stopped
        || (s.seq.transport.chaseMayPreempt && s.roomForChase (s.param Param.chaseLevel)))

/-- The examination of a waiting chase request (R95). -/
def State.examineChase (s : State) : State := if s.chaseGrantable then s.grantChase else s

/-- The protocol after a chase has been ended by a break or by protection (R100, R101, R102): a request WAITING through a
release stays WAITING; else SPENT while the line is high, IDLE while it is low. -/
def Arbiter.afterChase (a : Arbiter) : ChaseState :=
  if a.chase = .waiting then .waiting else if a.chaseLine then .spent else .idle

/-- A chase holds the transport or is starting (R102). -/
def State.chaseHolds (s : State) : Bool := s.arb.chase == .starting || s.seq.transport.isChase

/-- A chase ended by a break or by protection, with CHASE_BROKEN raised (R100, R102). -/
def State.breakChase (s : State) : State := (s.setChase s.arb.afterChase).raise .chaseBroken

/-! ## The return list (R103, R104) -/

/-- The states in which a locate's start pushes (R103). -/
def Transport.pushesReturn : Transport → Bool
  | .stopped | .play _ | .chase .parked | .chase .rolling => true
  | _ => false

/-- The requests whose start pushes (R103). -/
def MotionReq.pushesReturn : MotionReq → Bool
  | .locateMark _ | .locateAddress _ | .locateLength _ => true
  | _ => false

/-- The position of the head as a return list entry (R103). -/
def State.returnEntry (s : State) : ReturnEntry :=
  { length := s.headNow, address := headAddress s.map.spans s.geom.head }

/-- The push of a locate's start (R103). -/
def State.pushReturn (req : MotionReq) (s : State) : State :=
  if req.pushesReturn && s.seq.transport.pushesReturn then
    (s.setReturns (s.returnEntry :: s.arb.returns.take (Config.maxReturns - 1))).raiseIf
      (decide (Config.maxReturns ≤ s.arb.returns.length)) .returnWrapped
  else s

/-! ## Tests of a motion request (R64, R83, R85, R98) -/

/-- A kind is valid in a transport state (R64). -/
def MotionReq.validIn (r : MotionReq) (t : Transport) : Bool :=
  match r with
  | .thread _ _ => t == .unthreaded
  | .clearFault => t == .faulted
  | .chaseSpeed _ => t.isChase
  | .unthread | .stop =>
    match t with
    | .threading | .measuring _ | .settling | .stopped | .play _ | .wind | .shuttle | .locate _ | .halting
    | .chase _ => true
    | _ => false
  | .play | .wind _ | .shuttle _ | .locateMark _ | .locateAddress _ | .locateLength _ | .returnBack =>
    match t with
    | .settling | .stopped | .play _ | .wind | .shuttle | .locate _ | .halting | .chase _ => true
    | _ => false

/-- WIND and SHUTTLE from the studio have no meaning in the chase phases (R98). -/
def Held.chaseRefuses (h : Held) (t : Transport) : Bool :=
  match h.port, h.req, t with
  | .studio, .wind _, .chase .releasing | .studio, .shuttle _, .chase .releasing => false
  | .studio, .wind _, .chase _ | .studio, .shuttle _, .chase _ => true
  | _, _, _ => false

/-- The lockout test (R83): a STOP and an UNTHREAD from the panel are exempt. -/
def State.lockedOut (s : State) (h : Held) : Bool :=
  decide (s.portLevel h.port < s.param Param.lockoutLevel)
    && !(h.port == .panel && (h.req == .stop || h.req == .unthread))

/-- The state and lockout tests (R85 steps 3 and 4); the status of the first that fails. -/
def State.admission (s : State) (h : Held) : Option Status :=
  if !h.req.validIn s.seq.transport || h.chaseRefuses s.seq.transport then some .badState
  else if s.lockedOut h then some .lockedOut
  else none

/-- The start tests of the locate unit for a request that needs the map (R156). -/
def State.mapTest (s : State) : Option Status := if s.map.spans.isEmpty then some .noMap else none

/-- The start checks of a motion's owner (R65, R85 step 7, R156); the status of the first that fails. -/
def State.startCheck (s : State) (h : Held) : Option Status :=
  match h.req with
  | .thread _ _ => if s.tapePath = .opened then some .noTape else none
  | .locateMark n => if (markAt s.marks n.toNat).isNone then some .noSuchMark else s.mapTest
  | .locateAddress _ => s.mapTest
  | _ => none

/-! ## Starting a motion (R89, R90, R100) -/

/-- How a request comes to start: nothing to judge against, a replacement, a preemption, or a break of a chase. -/
inductive StartKind where
  | fresh
  | replace
  | preempt
  | breakChase
  deriving DecidableEq, Repr

/-- The outcome of a locate over which a motion starts (R171). -/
def StartKind.locateOutcome : StartKind → LocateOutcome
  | .fresh | .replace => .replaced
  | .preempt => .preempted
  | .breakChase => .broken

/-- The target of a locate request (R154, R173). -/
def Held.target (h : Held) : LocateTarget :=
  match h.req with
  | .locateMark n => .mark n.toNat
  | .locateAddress a => .address a
  | .locateLength l => .length l
  | _ => .returnTo (h.entry.getD { length := 0, address := none })

/-- UNTHREAD carried out from each state (R80). -/
def State.startUnthread (s : State) : State :=
  match s.seq.transport with
  | .threading | .settling | .stopped => s.enterUnthreading
  | .measuring _ => s.setTransport (.measuring .creepStop) (some .unthreading)
  | .chase .parked => if s.speed.vRef = 0 then s.enterUnthreading else s.setTransport .halting (some .unthreading)
  | _ => s.setTransport .halting (some .unthreading)

/-- PLAY's first phase (R71): it stays as it is when PLAY replaces PLAY, RUNNING under the capstan, else BRAKING. -/
def State.startPlay (how : StartKind) (s : State) : State :=
  match how, s.seq.transport with
  | .replace, .play _ => s
  | _, t => s.setTransport (.play (if t.capstanActive s.speed.kind then .running else .braking)) none

/-- THREAD at acceptance (R5, R13, R58, R65). -/
def State.startThread (supply takeup : Int) (s : State) : State :=
  ((s.setGeom (s.geom.thread supply.toNat takeup.toNat)).setSpeed { s.speed with overspeed := ⟨0, 0⟩ }).setTransport
    .threading none

/-- The qualification state cleared at acceptance of CLEAR_FAULT (R11, R39, R54, R58, R176, R186). -/
def State.clearQualification (s : State) : State :=
  { s with
    geom := s.geom.clearFault
    tension := { s.tension with axes := s.tension.axes.map Axis.clearFault }
    speed := { s.speed with overspeed := ⟨0, 0⟩, loop := { s.speed.loop with satCount := 0 } }
    prot := { s.prot with tapeOut := 0 } }

/-- CLEAR_FAULT at acceptance (R79): re-tensioning with the switch closed and the head length defined, else UNTHREADED. -/
def State.startClearFault (s : State) : State :=
  let s := s.clearQualification
  if s.tapePath = .closed ∧ s.geom.head.isSome then s.setTransport .threading none else s.enterUnthreaded

/-- A motion handed to its owner (R89). -/
def State.handOver (how : StartKind) (h : Held) (s : State) : State :=
  match h.req with
  | .stop => s.setTransport .halting (some .stopped)
  | .play => s.startPlay how
  | .wind v => (s.setTransport .wind none).setRequested v
  | .shuttle v => (s.setTransport .shuttle none).setRequested v
  | .locateMark _ | .locateAddress _ | .locateLength _ | .returnBack => s.startLocate false h.target
  | .thread a b => s.startThread a b
  | .unthread => s.startUnthread
  | .clearFault => s.startClearFault
  | .chaseSpeed _ => s

/-- What the start raises and ends before the new record is made (R88, R90, R100). -/
def State.beginStart (how : StartKind) (s : State) : State :=
  match how with
  | .fresh | .replace => s
  | .preempt => s.raise .preempted
  | .breakChase => s.breakChase.dropPending

/-- A motion started in one change (R89): the active motion ended, the return list push, the record, the hand-over, the report
to the protection unit, and the re-examination of a waiting chase (R95), also when the start breaks a chase whose release a
new request waits for (R101). DEDUCED, unsafe: log entry 32. -/
def State.start (how : StartKind) (h : Held) (s : State) : State :=
  let s := ((s.beginStart how).endLocate how.locateOutcome).pushReturn h.req
  let s := s.setRecord { kind := h.req.kind, source := h.port.source, level := s.portLevel h.port }
  ((s.handOver how h).noteStart h.req.kind).examineChase

/-- A start under its owner's start checks (R85 step 7). -/
def State.tryStart (how : StartKind) (h : Held) (s : State) : State × Status :=
  match s.startCheck h with
  | some st => (s, st)
  | none => (s.start how h, .ok)

/-- A request placed in the pending slot (R91). -/
def State.hold (h : Held) (s : State) : State × Status :=
  (s.dropPending.setSlot (some h), .pending)

/-! ## Judging (R86 to R88, R98 to R100) -/

/-- Judging against the active motion record (R88). -/
def State.judgeActive (h : Held) (s : State) : State × Status :=
  match s.arb.active with
  | none => s.tryStart .fresh h
  | some m =>
    if m.source = h.port.source then s.tryStart .replace h
    else if m.level < s.portLevel h.port then s.tryStart .preempt h
    else (s, .busy)

/-- Judging of a request other than STOP while the chase protocol is STARTING (R98, R100). -/
def State.judgeStarting (h : Held) (s : State) : State × Status :=
  if h.port = .panel ∧ s.recordLevel < s.portLevel .panel then s.tryStart .breakChase h else (s, .busy)

/-- A panel request while a chase holds the transport (R100). -/
def State.panelInChase (h : Held) (s : State) : State × Status :=
  if s.recordLevel < s.portLevel .panel then s.tryStart .breakChase h else s.hold h

/-- CHASE_SPEED accepted (R50, R99). -/
def State.chaseSpeed (ratio : Int) (s : State) : State × Status :=
  let r := clampTo 3584 4608 ratio
  ((s.setRatio r).raiseIf (decide (r ≠ ratio)) .chaseClamped,
    if r = ratio then .ok else .clamped)

/-- A change of chase phase by a studio request, the locate in force, if any, ended REPLACED (R98, R171). -/
def State.chasePhase (p : ChasePhase) (s : State) : State := (s.endLocate .replaced).setTransport (.chase p) none

/-- A studio locate in a granted chase (R98): start tests, the push in PARKED and ROLLING, and LOCATING. It is no start
of a motion (R178). -/
def State.chaseLocate (h : Held) (s : State) : State × Status :=
  match s.startCheck h with
  | some st => (s, st)
  | none => (((s.endLocate .replaced).pushReturn h.req).startLocate true h.target, .ok)

/-- A studio PLAY in a granted chase (R98). -/
def State.chasePlay (p : ChasePhase) (s : State) : State × Status :=
  match p with
  | .parked =>
    if s.speed.vRef < 0 ∨ capstanTarget s.ports.params s.speed.chaseRatio < s.speed.vRef then (s, .busy)
    else (s.chasePhase .rolling, .ok)
  | .rolling => (s, .ok)
  | .locating .approach | .locating .verify => (s.chasePhase .rolling, .ok)
  | .locating .travel | .locating .reposition => (s, .busy)
  | .releasing => (s, .busy)

/-- A studio STOP in a granted chase (R98). -/
def State.chaseStop (p : ChasePhase) (s : State) : State × Status :=
  match p with
  | .parked => (s, .ok)
  | .rolling | .locating _ => (s.chasePhase .parked, .ok)
  | .releasing => (s, .ok)

/-- A studio request while a chase holds the transport (R98): by the chase phase, and in RELEASING CHASE_SPEED and STOP
alone. -/
def State.studioInChase (p : ChasePhase) (h : Held) (s : State) : State × Status :=
  match h.req with
  | .chaseSpeed ratio => s.chaseSpeed ratio
  | .play => s.chasePlay p
  | .stop => s.chaseStop p
  | .locateMark _ | .locateAddress _ | .locateLength _ | .returnBack =>
    if p = .releasing then (s, .busy) else s.chaseLocate h
  | .wind _ | .shuttle _ | .thread _ _ | .unthread | .clearFault => (s, .busy)

/-- The active motion is the re-tensioning that CLEAR_FAULT started (R79, R86). -/
def State.retensioning (s : State) : Bool :=
  match s.arb.active with
  | some m => m.kind == .clearFault
  | none => false

/-- STOP in THREADING (R66, R79). -/
def State.stopThreading (s : State) : State :=
  if s.retensioning then s else s.cancelCreep

/-- STOP in MEASURING (R67). -/
def State.stopMeasuring (p : MeasurePhase) (s : State) : State :=
  match p with
  | .creep => s.setTransport (.measuring .creepStop) (some .settling)
  | .creepStop => s

/-- Judging in the current state (R85 steps 6 and 7, R86 to R88, R98, R100). A STOP in HALTING changes nothing whatever its
source and level, a STARTING halt included (R64, R75, R87). DEDUCED, unsafe: log entry 13. -/
def State.judge (h : Held) (s : State) : State × Status :=
  match s.seq.transport with
  | .unthreaded | .faulted => s.tryStart .fresh h
  | .threading => if h.req = .stop then (s.stopThreading, .ok) else s.tryStart .fresh h
  | .measuring p => if h.req = .stop then (s.stopMeasuring p, .ok) else s.tryStart .fresh h
  | .settling =>
    if h.req = .stop then (s.dropPending, .ok)
    else if h.req = .unthread then s.tryStart .fresh h
    else s.hold h
  | .stopped => if h.req = .stop then (s, .ok) else s.tryStart .fresh h
  | .play _ | .wind | .shuttle | .locate _ => s.judgeActive h
  | .halting =>
    if h.req = .stop then (s, .ok)
    else if s.arb.chase = .starting then s.judgeStarting h
    else s.judgeActive h
  | .chase p =>
    match h.port with
    | .studio => s.studioInChase p h
    | .panel => s.panelInChase h
  | .protectStop | .unthreading => (s, .badState)

/-- The pop of the return list (R85 step 5, R104): none for an empty list; a request other than RETURN pops nothing. -/
def State.popReturn (h : Held) (s : State) : Option (Held × State) :=
  match h.req with
  | .returnBack =>
    match s.arb.returns with
    | [] => none
    | e :: rest => some ({ h with entry := some e }, s.setReturns rest)
  | _ => some (h, s)

/-- A motion request from the state test on (R85 steps 3 to 7). -/
def State.motionFromStateTest (h : Held) (s : State) : State × Status :=
  match s.admission h with
  | some st => (s, st)
  | none =>
    match s.popReturn h with
    | none => (s, .empty)
    | some (h, s) => s.judge h

/-- The held request judged again at an entry to STOPPED (R92 step 3): the entry a RETURN popped is used. -/
def State.judgeHeld (h : Held) (s : State) : State × Status :=
  match s.admission h with
  | some st => (s, st)
  | none => s.judge h

/-- The request of the pending slot judged at an entry to STOPPED (R92): discarded with PENDING_DROPPED when it fails. -/
def State.judgeSlot (s : State) : State :=
  match s.arb.slot with
  | none => s
  | some h =>
    let r := (s.setSlot none).judgeHeld h
    if r.2.accepted then r.1 else r.1.raiseOn h.port .pendingDropped

/-- The chase protocol after an entry to STOPPED, which ends a release (R101): RELEASING becomes IDLE.
DEDUCED, unsafe: log entry 15. -/
def Arbiter.afterRelease (a : Arbiter) : ChaseState := if a.chase = .releasing then .idle else a.chase

/-- Entry to STOPPED (R70, R92): the active motion ends, a waiting chase is examined, the pending request is judged. -/
def State.enterStopped (s : State) : State :=
  let s := (s.setTransport .stopped none).setActive none
  ((s.setChase s.arb.afterRelease).examineChase).judgeSlot

/-! ## Operand tests (R5, R155) -/

/-- The profile tests of THREAD (R5). DEDUCED, unsafe: log entry 19. -/
def State.threadTest (s : State) (supply takeup : Int) : Option Status :=
  if ¬(0 ≤ supply ∧ supply ≤ 3 ∧ 0 ≤ takeup ∧ takeup ≤ 3) then some .badOperand
  else if (s.geom.slotProfile supply.toNat).isNone || (s.geom.slotProfile takeup.toNat).isNone then some .badProfile
  else none

/-- The operand tests of a motion request by its owner (R85 step 2); the status of the first that fails. -/
def State.operandTest (s : State) : MotionReq → Option Status
  | .thread a b => s.threadTest a b
  | .locateMark n =>
    if ¬(0 ≤ n ∧ n ≤ 127) then some .badOperand
    else if (markAt s.marks n.toNat).isNone then some .noSuchMark
    else none
  | .locateAddress a => if 0 ≤ a ∧ a ≤ 16777215 then none else some .badOperand
  | .locateLength l => if headMin ≤ l ∧ l ≤ headMax then none else some .badOperand
  | .stop | .play | .wind _ | .shuttle _ | .returnBack | .unthread | .clearFault | .chaseSpeed _ => none

/-- A motion request taken on a port, after the port unit's tests (R85). -/
def State.motion (p : Port) (req : MotionReq) (s : State) : State × Status :=
  match s.operandTest req with
  | some st => (s, st)
  | none => s.motionFromStateTest { req := req, port := p, entry := none }

end Sys2Proof.Machine
end

