-- ==== Sys2Proof/Machine/Protection.lean ====
section
/-! DEFINITION. The protection unit (chapter 9): taking a cause, the stop report, and the stop and fault demands. -/

namespace Sys2Proof.Machine

/-! ## Capture (R183, R184) -/

/-- The machine's condition as a stop report takes it (R183). DEDUCED, safe: log entry 21. -/
def State.snapshot (s : State) (c : Cause) (a : CauseAxis) : StopReport :=
  { cause := c, axis := a, transport := s.seq.transport,
    motion := s.arb.active.map (fun m => (m.kind, m.source)),
    head := s.geom.head, vMeas := s.speed.vMeas,
    arms := s.tension.axes.map (fun x => x.arm), words := s.tension.axes.map (fun x => x.word),
    capstanWord := s.speed.loop.word, circumferences := s.geom.est.map (fun e => e.c), later := [] }

/-- A cause name added to a set, at most once (R183). -/
def addCause (c : Cause) (cs : List Cause) : List Cause := if cs.contains c then cs else cs ++ [c]

/-- The capture policy (R184): an unread report keeps its first cause and takes the name; else the record is overwritten. -/
def State.capture (c : Cause) (a : CauseAxis) (s : State) : State :=
  match s.prot.report, s.prot.unread with
  | some r, true => { s with prot := { s.prot with report := some { r with later := addCause c r.later } } }
  | _, _ => { s with prot := { s.prot with report := some (s.snapshot c a), unread := true } }

/-! ## Demands (R77 to R81, R102, R172, R180, R181) -/

/-- The chase, the pending request, the locate and the active motion ended by a protection stop or fault (R84, R93, R102,
R172). -/
def State.endByProtection (s : State) : State :=
  let s := if s.chaseHolds then s.breakChase else s
  (s.dropPending.endLocate .protection).setActive none

/-- Entry to PROTECT_STOP (R77, R180). -/
def State.enterProtectStop (s : State) : State := s.endByProtection.setTransport .protectStop none

/-- Entry to FAULTED with FAULT raised (R78, R181). -/
def State.enterFaulted (s : State) : State := (s.endByProtection.setTransport .faulted none).raise .fault

/-- A stop demand in the state that stands (R66, R77, R179). -/
def State.stopDemand (s : State) : State :=
  match s.seq.transport with
  | .threading => s.enterUnthreading.raise .protectedStop
  | .measuring _ | .settling | .stopped | .play _ | .wind | .shuttle | .locate _ | .chase _ | .halting =>
    s.enterProtectStop
  | .protectStop | .unthreading | .faulted | .unthreaded => s

/-- A fault demand in the state that stands (R78, R179). -/
def State.faultDemand (s : State) : State := if s.seq.transport.isForced then s else s.enterFaulted

/-- A cause is of the fault class (R175). -/
def Cause.isFault : Cause → Bool
  | .tensionLoss | .tapeOut | .driveSaturated => true
  | .overTension | .reelOverspeed | .leader | .geometry | .range | .extStop => false

/-- A cause taken (R175, R179): discarded in UNTHREADED, else captured and then demanded by its class. -/
def State.takeCause (c : Cause) (a : CauseAxis) (s : State) : State :=
  if s.seq.transport = .unthreaded then s
  else
    let s := s.capture c a
    if c.isFault then s.faultDemand else s.stopDemand

/-- A cause taken when a condition holds. -/
def State.takeCauseIf (b : Bool) (c : Cause) (a : CauseAxis) (s : State) : State := if b then s.takeCause c a else s

/-! ## Raised events (log entry 3) -/

/-- The cause and axis of a raised event (R11, R34, R36, R37, R54, R58, R176, R178). -/
def Due.cause : Due → Cause × CauseAxis
  | .reject r => (.geometry, r.axis)
  | .saturation r => (.driveSaturated, r.axis)
  | .low r => (.tensionLoss, r.axis)
  | .high r => (.overTension, r.axis)
  | .capstanSaturation => (.driveSaturated, .capstan)
  | .overspeed r => (.reelOverspeed, r.axis)
  | .tapeOut => (.tapeOut, .none)
  | .extStopCatch => (.extStop, .none)

/-- A raised event taken: its condition handed to the protection unit. An event that has not been raised does nothing. -/
def State.takeDue (d : Due) (s : State) : State :=
  if s.due.contains d then (s.setDue (s.due.erase d)).takeCause d.cause.1 d.cause.2 else s

/-- EXT_STOP taken for every start that was caught in LEVEL mode (R178). It is the event that follows the start, so each
command but its own row's and DEVICE_RESET takes it before its own effect. DEDUCED, unsafe: log entry 14. -/
def State.takeCatches (s : State) : State :=
  (s.due.filter (fun d => decide (d = .extStopCatch))).foldl (fun t d => t.takeDue d) s

end Sys2Proof.Machine
end

