-- ==== Sys2Proof/Machine/LocateRun.lean ====
section
/-! DEFINITION. The locate unit (chapter 8), second part: the run of a locate through its phases, its verification, its
completion and its failure. -/

namespace Sys2Proof.Machine

/-- The transport of a locate phase, in the state the locate runs in (R76). -/
def State.locateIn (s : State) (p : LocatePhase) : Transport := locateTransport s.seq.transport.isChase p

/-! ## Ends (R167 to R169) -/

/-- The located line driven high by a verified completion (R169). DESIGN CHOICE, safe: log entry 27. -/
def State.pulseLocated (verified : Bool) (s : State) : State :=
  { s with locate := { s.locate with located := s.locate.located || verified } }

/-- The verify timer started (R162). -/
def State.startVerifyTimer (s : State) : State := { s with locate := { s.locate with verifyTimer := true } }

/-- Completion (R167): the result, the located pulse of a verified one, LOCATE_DONE, and STOPPED, or PARKED in chase. -/
def State.completeLocate (verified : Bool) (s : State) : State :=
  let inChase := s.seq.transport.isChase
  let s := s.endLocate (if verified then .verified else .unverified)
  let s := (s.pulseLocated verified).raise .locateDone
  if inChase then s.setTransport (.chase .parked) none else s.enterStopped

/-- Failure (R168): the result, LOCATE_FAILED, and HALTING with the record's kind made STOP (R89), or PARKED in chase. -/
def State.failLocate (o : LocateOutcome) (s : State) : State :=
  let inChase := s.seq.transport.isChase
  let s := (s.endLocate o).raise .locateFailed
  if inChase then s.setTransport (.chase .parked) none
  else (s.setTransport .halting (some .stopped)).recordStop

/-! ## Misses (R165, R166) -/

/-- A miss of the locate `r` (R165): a failure at the retry limit, else a recomputed retry. -/
def State.missLocate (r : LocateRecord) (s : State) : State :=
  if r.retries = r.limit then s.failLocate .missed
  else s.choosePhase s.seq.transport.isChase .reposition (s.recompute { r with retries := r.retries + 1 })

/-- The stopping point lies behind the head (R161). -/
def State.behindHead (s : State) (r : LocateRecord) : Bool := decide (r.stopPoint < s.headNow - 2)

/-- A recomputed record in APPROACH, at its entry (`first`) or after a report (R161): a miss when its stopping point lies
behind the head, else the generator heads for it. -/
def State.headFor (first : Bool) (r : LocateRecord) (s : State) : State :=
  let s := s.setLocate r
  if s.behindHead r then s.missLocate r else s.headToward first r.stopPoint

/-- Entry to APPROACH at the end of TRAVEL or REPOSITION (R161). -/
def State.enterApproach (r : LocateRecord) (s : State) : State :=
  let s := s.setTransport (s.locateIn .approach) none
  s.headFor true (s.recompute { r with newest := none })

/-- Entry to VERIFY (R162). -/
def State.enterVerify (r : LocateRecord) (s : State) : State :=
  let s := s.setTransport (s.locateIn .verify) none
  (s.setLocate (s.recompute r)).startVerifyTimer

/-- Stopping point reached, as the generator reports it (R48, R160, R161, R166). -/
def State.pointReached (s : State) : State :=
  match s.locate.active, s.seq.transport.locatePhase with
  | some r, some .travel | some r, some .reposition =>
    if r.target.verifying then s.enterApproach r else s.completeLocate false
  | some r, some .approach => s.enterVerify r
  | _, _ => s

/-! ## Reports (R161, R162) -/

/-- An accepted report handed to the locate unit in APPROACH or VERIFY (R108, R161, R162). -/
def State.handReport (p : Stamp) (s : State) : State :=
  let newest : Newest := { address := p.address, length := p.length, pitch := pitchAt s.map.spans p.length }
  match s.locate.active, s.seq.transport.locatePhase with
  | some r, some .approach => s.headFor false (s.recompute { r with newest := some newest })
  | some r, some .verify => s.setLocate (s.recompute { r with newest := some newest })
  | _, _ => s

/-! ## Verification (R162 to R164) -/

/-- The verification error of a report for a target address (R163). DESIGN CHOICE, safe: log entry 28. -/
def State.verifyError (s : State) (r : LocateRecord) (n : Newest) : Int :=
  let lv := s.headNow - r.offset
  r.targetAddr.getD 0 - (n.address + roundDiv ((lv - n.length) * 1024) n.pitch)

/-- The judgement of a pass without reports (R164). -/
def State.passWithoutReports (r : LocateRecord) (s : State) : State :=
  if r.targetState = some .notInMap then s.failLocate .noAddress else s.completeLocate false

/-- The evaluation of a VERIFY at rest (R163, R164). DEDUCED, unsafe: log entry 23. -/
def State.evaluateVerify (r : LocateRecord) (s : State) : State :=
  match r.newest with
  | none => s.passWithoutReports r
  | some n =>
    let e := s.verifyError r n
    let r := { r with lastError := some e }
    let s := s.setLocate r
    if mag e ≤ s.param Param.locateWindow then s.completeLocate true else s.missLocate r

/-- The verify timer's expiry (R162): at rest the evaluation is made, otherwise the timer starts again. -/
def State.verifyExpiry (s : State) : State :=
  match s.locate.active with
  | none => s
  | some r => if mag s.speed.vMeas ≤ 62 then s.evaluateVerify r else s

/-! ## Retirement (R144, R170) -/

/-- The active locate's target is a mark that the predicate takes. -/
def State.targetsMark (taken : Nat → Bool) (s : State) : Bool :=
  match s.locate.active with
  | some r =>
    match r.target with
    | .mark n => taken n
    | _ => false
  | none => false

/-- The retirement of marks reported to the locate unit (R144, R145, R170). -/
def State.retireTarget (taken : Nat → Bool) (s : State) : State :=
  if s.targetsMark taken then s.failLocate .targetRetired else s

end Sys2Proof.Machine
end

