-- ==== Sys2Proof/Machine/Operands.lean ====
section
/-! DEFINITION. The byte layout of requests and results (R195, R196): integers, absent fields, lists, enumerations, and the
32 request kinds with their operands. -/

namespace Sys2Proof.Machine

/-! ## Integers (R196) -/

/-- The unsigned integer of bytes sent most significant first. -/
def unsignedOf (bs : List Byte) : Nat := bs.foldl (fun n b => n * 256 + b.toNat) 0

/-- The two's complement integer of bytes sent most significant first. -/
def signedOf (bs : List Byte) : Int :=
  let n : Int := unsignedOf bs
  if 2 * n < 2 ^ (8 * bs.length) then n else n - 2 ^ (8 * bs.length)

/-- One byte. -/
def u8 (n : Nat) : List Byte := [BitVec.ofNat 8 n]

/-- Two bytes of an unsigned integer or a bit set. -/
def u16 (n : Nat) : List Byte := [BitVec.ofNat 8 (n / 256), BitVec.ofNat 8 n]

/-- Two bytes, two's complement (trims). -/
def s16 (n : Int) : List Byte := [BitVec.ofInt 8 (n / 256), BitVec.ofInt 8 n]

/-- Four bytes, two's complement. -/
def s32 (n : Int) : List Byte :=
  [BitVec.ofInt 8 (n / 16777216), BitVec.ofInt 8 (n / 65536), BitVec.ofInt 8 (n / 256), BitVec.ofInt 8 n]

/-- A two-valued field. -/
def flagByte (b : Bool) : List Byte := u8 (if b then 1 else 0)

/-- A field of `width` bytes that may be absent: the presence byte, then the field, 0 when it is absent (R196).
DESIGN CHOICE, unsafe: log entry 18. -/
def optional {α : Type} (width : Nat) (enc : α → List Byte) : Option α → List Byte
  | none => u8 0 ++ List.replicate width 0
  | some a => u8 1 ++ enc a

/-- A list of varying length: its count, then its items (R196). DESIGN CHOICE, unsafe: log entry 18. -/
def counted {α : Type} (enc : α → List Byte) (as : List α) : List Byte := u8 as.length ++ as.flatMap enc

/-! ## Enumerations (R196) -/

/-- The code of a transport state. -/
def Transport.code : Transport → Nat
  | .unthreaded => 0
  | .threading => 1
  | .measuring _ => 2
  | .settling => 3
  | .stopped => 4
  | .play _ => 5
  | .wind => 6
  | .shuttle => 7
  | .locate _ => 8
  | .chase _ => 9
  | .halting => 10
  | .protectStop => 11
  | .faulted => 12
  | .unthreading => 13

/-- The code of a locate phase. -/
def LocatePhase.code : LocatePhase → Nat
  | .travel => 5
  | .approach => 6
  | .verify => 7
  | .reposition => 8

/-- The code of the phase, absent in states without one. -/
def Transport.phaseCode : Transport → Option Nat
  | .measuring .creep => some 0
  | .measuring .creepStop => some 1
  | .play .braking => some 2
  | .play .engage => some 3
  | .play .running => some 4
  | .locate p => some p.code
  | .chase .parked => some 9
  | .chase .rolling => some 10
  | .chase (.locating _) => some 11
  | .chase .releasing => some 12
  | _ => none

/-- The code of a rest destination: as a transport state, CHASE standing for CHASE in PARKED. -/
def RestDest.code : RestDest → Nat
  | .stopped => 4
  | .settling => 3
  | .unthreading => 13
  | .chaseParked => 9

/-- The code of a motion record kind. -/
def MotionKind.code : MotionKind → Nat
  | .thread => 0
  | .clearFault => 1
  | .play => 2
  | .wind => 3
  | .shuttle => 4
  | .locate => 5
  | .stop => 6
  | .unthread => 7
  | .chase => 8

/-- The code of a source. -/
def Source.code : Source → Nat
  | .panel => 0
  | .studio => 1
  | .chase => 2

/-- The code of a port or owner. -/
def Port.code : Port → Nat
  | .panel => 0
  | .studio => 1

/-- The code of a chase protocol state. -/
def ChaseState.code : ChaseState → Nat
  | .idle => 0
  | .waiting => 1
  | .starting => 2
  | .granted => 3
  | .releasing => 4
  | .spent => 5

/-- The code of a locate kind. -/
def LocateTarget.code : LocateTarget → Nat
  | .mark _ => 0
  | .address _ => 1
  | .length _ => 2
  | .returnTo _ => 3

/-- The code of a locate outcome. -/
def LocateOutcome.code : LocateOutcome → Nat
  | .verified => 0
  | .unverified => 1
  | .missed => 2
  | .noAddress => 3
  | .targetRetired => 4
  | .replaced => 5
  | .preempted => 6
  | .broken => 7
  | .released => 8
  | .protection => 9

/-- The code of a mark state. -/
def Resolution.code : Resolution → Nat
  | .unresolved => 0
  | .resolved _ _ => 1
  | .confirmed _ _ => 2
  | .ambiguous _ => 3

/-- The code of an edge kind. -/
def EdgeKind.code : EdgeKind → Nat
  | .edge => 0
  | .jump => 1
  | .cut => 2

/-- The code of a cause. -/
def Cause.code : Cause → Nat
  | .tensionLoss => 0
  | .overTension => 1
  | .tapeOut => 2
  | .driveSaturated => 3
  | .reelOverspeed => 4
  | .leader => 5
  | .geometry => 6
  | .range => 7
  | .extStop => 8

/-- The code of a cause's axis. -/
def CauseAxis.code : CauseAxis → Nat
  | .supply => 0
  | .takeup => 1
  | .capstan => 2
  | .none => 3

/-- The code of an estimator mode. -/
def EstMode.code : EstMode → Nat
  | .initial => 0
  | .tracking => 1

/-- The code of a status (R193). -/
def Status.code : Status → Nat
  | .ok => 0
  | .clamped => 1
  | .pending => 2
  | .skipped => 3
  | .busy => 4
  | .lockedOut => 5
  | .badState => 6
  | .notPermitted => 7
  | .noTape => 8
  | .badProfile => 9
  | .inUse => 10
  | .noSuchMark => 11
  | .markExists => 12
  | .tableFull => 13
  | .locked => 14
  | .noMap => 15
  | .noAddress => 16
  | .empty => 17
  | .badOperand => 18

/-- The kind number of a motion request (R195). -/
def MotionReq.code : MotionReq → Nat
  | .stop => 0
  | .play => 1
  | .wind _ => 2
  | .shuttle _ => 3
  | .locateMark _ => 4
  | .locateAddress _ => 5
  | .locateLength _ => 6
  | .returnBack => 7
  | .thread _ _ => 8
  | .unthread => 9
  | .clearFault => 10
  | .chaseSpeed _ => 11

/-! ## Request kinds (R195) -/

/-- The operand length of each kind, by its number (R195). -/
def operandLengths : List Nat :=
  [0, 0, 4, 4, 1, 4, 4, 0, 2, 0, 0, 2, 7, 1, 5, 3, 1, 1, 1, 1, 1, 1, 1, 0, 45, 1, 5, 1, 0, 0, 0, 5]

/-- A request with its operands as the bytes give them (R195). -/
inductive Request where
  | motion (req : MotionReq)
  | placeMark (number : Nat) (address trim : Int)
  | captureMark (number : Nat)
  | moveMark (number : Nat) (address : Int)
  | trimMark (number : Nat) (trim : Int)
  | lockMark (number : Nat)
  | unlockMark (number : Nat)
  | retireMark (number : Nat)
  | retireMarks (scope : Nat)
  | readMark (number : Nat)
  | listMarks (first : Nat)
  | readSpans (index : Nat)
  | forgetMap
  | setProfile (slot : Nat) (ch cf nmax : Int) (inertia : List Int)
  | readProfile (slot : Nat)
  | setParameter (number : Nat) (value : Int)
  | readParameter (number : Nat)
  | readStatus
  | readGeometry
  | readStopReport
  | clearFlags (clear action mask : Nat)
  deriving DecidableEq, Repr

/-- `n` bytes from position `i` of the operands. -/
def bytesAt (ops : List Byte) (i n : Nat) : List Byte := (ops.drop i).take n

/-- The one-byte operand at a position. -/
def byteAt (ops : List Byte) (i : Nat) : Nat := unsignedOf (bytesAt ops i 1)

/-- The four-byte operand at a position. -/
def wordAt (ops : List Byte) (i : Nat) : Int := signedOf (bytesAt ops i 4)

/-- The motion request of a kind number 0 to 11 (R195). -/
def motionOf (kind : Nat) (ops : List Byte) : MotionReq :=
  match kind with
  | 0 => .stop
  | 1 => .play
  | 2 => .wind (wordAt ops 0)
  | 3 => .shuttle (wordAt ops 0)
  | 4 => .locateMark (byteAt ops 0)
  | 5 => .locateAddress (wordAt ops 0)
  | 6 => .locateLength (wordAt ops 0)
  | 7 => .returnBack
  | 8 => .thread (byteAt ops 0) (byteAt ops 1)
  | 9 => .unthread
  | 10 => .clearFault
  | _ => .chaseSpeed (unsignedOf (bytesAt ops 0 2))

/-- The request of a kind number 0 to 31 with its operand bytes (R195). -/
def requestOf (kind : Nat) (ops : List Byte) : Request :=
  match kind with
  | 12 => .placeMark (byteAt ops 0) (wordAt ops 1) (signedOf (bytesAt ops 5 2))
  | 13 => .captureMark (byteAt ops 0)
  | 14 => .moveMark (byteAt ops 0) (wordAt ops 1)
  | 15 => .trimMark (byteAt ops 0) (signedOf (bytesAt ops 1 2))
  | 16 => .lockMark (byteAt ops 0)
  | 17 => .unlockMark (byteAt ops 0)
  | 18 => .retireMark (byteAt ops 0)
  | 19 => .retireMarks (byteAt ops 0)
  | 20 => .readMark (byteAt ops 0)
  | 21 => .listMarks (byteAt ops 0)
  | 22 => .readSpans (byteAt ops 0)
  | 23 => .forgetMap
  | 24 => .setProfile (byteAt ops 0) (wordAt ops 1) (wordAt ops 5) (wordAt ops 9)
            ((List.range 8).map (fun k => wordAt ops (13 + 4 * k)))
  | 25 => .readProfile (byteAt ops 0)
  | 26 => .setParameter (byteAt ops 0) (wordAt ops 1)
  | 27 => .readParameter (byteAt ops 0)
  | 28 => .readStatus
  | 29 => .readGeometry
  | 30 => .readStopReport
  | 31 => .clearFlags (unsignedOf (bytesAt ops 0 2)) (byteAt ops 2) (unsignedOf (bytesAt ops 3 2))
  | k => .motion (motionOf k ops)

/-- The motion request kinds are numbers 0 to 11 (R191). -/
def isMotionKind (kind : Nat) : Bool := decide (kind ≤ 11)

/-- The rights test (R194): a kind is refused to its port. -/
def notPermitted (p : Port) (kind : Nat) : Bool :=
  match p with
  | .panel => kind == 11
  | .studio => [8, 9, 10, 16, 17, 23, 24, 26].contains kind

end Sys2Proof.Machine
end

