-- ==== Sys2Proof/Machine/Records.lean ====
section
/-! DEFINITION. The results of the reading requests as bytes (R7, R128, R146, R147, R183, R197, R198, R202), fields in the
order of the rule that defines the read (R196). -/

namespace Sys2Proof.Machine

/-- A length, address or other four-byte result that may be absent. -/
def optWord (v : Option Int) : List Byte := optional 4 s32 v

/-- A one-byte result that may be absent. -/
def optByte (v : Option Nat) : List Byte := optional 1 u8 v

/-! ## Marks (R131, R146, R147) -/

/-- A mark record (R146): number, address, trim, owner, lock, state, span and resolved length. -/
def Mark.encode (m : Mark) : List Byte :=
  u8 m.number ++ s32 m.address ++ s16 m.trim ++ u8 m.owner.code ++ flagByte m.lock ++ u8 m.resolution.code
    ++ optByte (m.resolution.place.map (fun p => p.1)) ++ optWord (m.resolution.place.map (fun p => p.2))

/-- READ_MARK's results (R146): the record and the candidates with their lengths. -/
def Mark.encodeRead (spans : List Span) (m : Mark) : List Byte :=
  m.encode ++ counted (fun c => u8 c.1 ++ s32 c.2) (m.candidateLengths spans)

/-- One record of LIST_MARKS (R147): with the number of candidates. -/
def Mark.encodeListed (m : Mark) : List Byte := m.encode ++ u8 m.resolution.candidates.length

/-- LIST_MARKS's results (R147). -/
def listMarks (marks : List Mark) (first : Nat) : List Byte :=
  u8 marks.length ++ counted Mark.encodeListed ((marks.filter (fun m => decide (first ≤ m.number))).take 8)

/-! ## Spans (R128) -/

/-- One span record (R109, R128). -/
def Span.encode (p : Span) : List Byte :=
  u8 p.num ++ s32 p.startLen ++ s32 p.lastLen ++ s32 p.startAddr ++ s32 p.lastAddr ++ s32 p.pitch ++ s32 p.anchors
    ++ u8 (if p.isOpen then 0 else 1) ++ u8 p.startKind.code ++ u8 p.lastKind.code

/-- READ_SPANS's results (R128): the header, whose last field counts the records, and up to 6 records. -/
def MapUnit.encode (m : MapUnit) (index : Nat) : List Byte :=
  u8 m.spans.length ++ optByte (m.openSpan.map (fun p => p.num))
    ++ optional 8 (fun c : Stamp => s32 c.address ++ s32 c.length) m.candidate ++ u8 m.linkErrors
    ++ counted Span.encode ((m.spans.drop index).take 6)

/-! ## Profiles (R7) -/

/-- The code of a slot's binding: none, supply, takeup, both (R7, R196). -/
def Geometry.bindingCode (g : Geometry) (n : Nat) : Nat :=
  (if g.bound.supply = some n then 1 else 0) + (if g.bound.takeup = some n then 2 else 0)

/-- READ_PROFILE's results (R7). -/
def Geometry.encodeProfile (g : Geometry) (n : Nat) : List Byte :=
  let p := g.slotProfile n
  u8 (if p.isSome then 1 else 0) ++ u8 (g.bindingCode n)
    ++ optWord (p.map (fun p => p.ch)) ++ optWord (p.map (fun p => p.cf)) ++ optWord (p.map (fun p => p.nmax))
    ++ (List.range 8).flatMap (fun k => optWord (p.map (fun p => p.pointInertia k)))
    ++ (List.range 8).flatMap (fun k => optWord (p.map (fun p => p.pointPos k)))

/-! ## Geometry (R198) -/

/-- READ_GEOMETRY's results for one reel (R198). -/
def State.encodeReel (s : State) (r : Reel) : List Byte :=
  optByte (s.geom.bound.get r) ++ u8 (s.geom.est.get r).mode.code ++ optWord (s.geom.est.get r).c
    ++ optWord (s.geom.inertia r) ++ optWord (s.geom.speedLimit r) ++ s32 (s.tension.axes.get r).arm
    ++ s32 (s.tension.axes.get r).word

/-- READ_GEOMETRY's results (R198). -/
def State.encodeGeometry (s : State) : List Byte :=
  s.encodeReel .supply ++ s.encodeReel .takeup ++ s32 s.speed.loop.word

/-! ## Stop report (R183, R185) -/

/-- A set of causes as two bytes (R196). -/
def causeSet (cs : List Cause) : Nat := cs.foldl (fun n c => n ||| 2 ^ c.code) 0

/-- READ_STOP_REPORT's results (R183, R185), with unread as it stood before the read. A circumference is present in every
state in which a cause is taken (R8). -/
def StopReport.encode (r : StopReport) (unread : Bool) : List Byte :=
  u8 r.cause.code ++ u8 r.axis.code ++ u8 r.transport.code ++ optByte r.transport.phaseCode
    ++ optional 2 (fun m : MotionKind × Source => u8 m.1.code ++ u8 m.2.code) r.motion
    ++ optWord r.head ++ s32 r.vMeas ++ s32 r.arms.supply ++ s32 r.arms.takeup ++ s32 r.words.supply
    ++ s32 r.words.takeup ++ s32 r.capstanWord ++ s32 (r.circumferences.supply.getD 0)
    ++ s32 (r.circumferences.takeup.getD 0) ++ u16 (causeSet r.later) ++ flagByte unread

/-! ## Status (R197) -/

/-- The rest destination as READ_STATUS reports it (R61, R197). -/
def State.encodeTransport (s : State) : List Byte :=
  u8 s.seq.transport.code ++ optByte s.seq.transport.phaseCode ++ optByte (s.seq.restDest.map RestDest.code)

/-- The arbiter's part of READ_STATUS (R197). -/
def State.encodeArbiter (s : State) : List Byte :=
  optional 3 (fun m : Motion => u8 m.kind.code ++ u8 m.source.code ++ u8 m.level.toNat) s.arb.active
    ++ optional 2 (fun h : Held => u8 h.req.code ++ u8 h.port.code) s.arb.slot
    ++ u8 s.arb.chase.code ++ flagByte s.arb.chaseLine ++ flagByte s.seq.outputs.grant
    ++ u8 s.arb.returns.length
    ++ optional 9 (fun e : ReturnEntry => s32 e.length ++ optWord e.address) s.arb.returns.head?

/-- The locate unit's part of READ_STATUS (R154, R197). -/
def State.encodeLocate (s : State) : List Byte :=
  optional 8
      (fun r : LocateRecord =>
        u8 r.target.code ++ u8 ((s.seq.transport.locatePhase.map LocatePhase.code).getD 0) ++ u8 r.retries
          ++ u8 r.limit ++ s32 r.stopPoint)
      s.locate.active
    ++ optional 12
      (fun r : LocateResult => u8 r.target.code ++ u8 r.outcome.code ++ u8 r.retries ++ s32 r.head ++ optWord r.error)
      s.locate.result

/-- READ_STATUS's results for a port (R197). -/
def State.encodeStatus (s : State) (p : Port) : List Byte :=
  s.encodeTransport ++ optWord s.geom.head ++ optWord (headAddress s.map.spans s.geom.head)
    ++ s32 s.speed.vMeas ++ s32 s.speed.vRef ++ s.encodeArbiter ++ s.encodeLocate
    ++ flagByte s.prot.report.isSome ++ optByte (s.prot.report.map (fun r => r.cause.code)) ++ flagByte s.prot.unread
    ++ flagByte (s.tapePath == .closed) ++ flagByte (s.seq.leaderSeen == .leader)
    ++ u16 (s.ports.port p).flags.toNat ++ u16 (s.ports.port p).mask.toNat

end Sys2Proof.Machine
end

