-- ==== Sys2Proof/Machine/Requests.lean ====
section
/-! DEFINITION. Carrying out one slot of a taken frame (R192 to R195): the rights test, then the request's own tests in the
order its rule gives, its effect, its status and its results. -/

namespace Sys2Proof.Machine

/-- A slot carried out: the state it leaves, its status (R193) and its results. -/
structure Carried where
  state : State
  status : Status
  results : List Byte
  deriving DecidableEq, Repr

/-- A request refused with a status: no results and no effect (R193). -/
def refuse (st : Status) (s : State) : Carried := { state := s, status := st, results := [] }

/-- A request carried out with status OK and its results. -/
def answer (results : List Byte) (s : State) : Carried := { state := s, status := .ok, results := results }

/-- OK, or CLAMPED when an operand was clamped (R193). -/
def clampedIf (b : Bool) : Status := if b then .clamped else .ok

/-- Tests made in order: the status of the first that fails, each paired with whether it fails. -/
def firstFailure : List (Bool × Status) → Option Status
  | [] => none
  | (fails, st) :: rest => if fails then some st else firstFailure rest

/-- A request under its ordered tests: refused by the first that fails, else carried out. -/
def underTests (tests : List (Bool × Status)) (act : State → Carried) (s : State) : Carried :=
  match firstFailure tests with
  | some st => refuse st s
  | none => act s

/-! ## Marks (R132, R133, R139 to R147) -/

/-- An address operand outside 0..16,777,215 (R133). -/
def badAddress (a : Int) : Bool := decide (a < 0) || decide (16777215 < a)

/-- A number operand outside 0..127 (R133). -/
def badNumber (n : Nat) : Bool := decide (127 < n)

/-- The number operand of PLACE_MARK and CAPTURE_MARK: 255 asks for the lowest free number (R133). -/
def badNewNumber (n : Nat) : Bool := decide (127 < n) && decide (n ≠ 255)

/-- The existence tests of PLACE_MARK and CAPTURE_MARK (R133 test 3). -/
def newMarkTests (marks : List Mark) (n : Nat) : List (Bool × Status) :=
  [(decide (n ≤ 127) && (markAt marks n).isSome, .markExists),
   (decide (n = 255) && (freeMark marks).isNone, .tableFull)]

/-- The number a new mark takes (R139). Called only after the tests of R133. -/
def newNumber (marks : List Mark) (n : Nat) : Nat := if n = 255 then (freeMark marks).getD 0 else n

/-- A studio change of a locked PANEL mark (R132). -/
def lockedAgainst (port : Port) (marks : List Mark) (n : Nat) : Bool :=
  port == .studio && ((markAt marks n).map (fun m => m.lock)).getD false

/-- The existence test of a request that names a mark (R133 test 3). -/
def heldTest (marks : List Mark) (n : Nat) : Bool × Status := ((markAt marks n).isNone, .noSuchMark)

/-- The mark record of a number as results (R139, R146). -/
def State.markRecord (s : State) (n : Nat) : List Byte := ((markAt s.marks n).map Mark.encode).getD []

/-- A new mark made with an address and a trim (R139). -/
def State.makeMark (port : Port) (n : Nat) (a trim : Int) (s : State) : Carried :=
  let k := newNumber s.marks n
  let s := s.setMarks (insertMark (newMark s.map.spans port k a trim) s.marks)
  { state := s, status := clampedIf (decide (clampTrim trim ≠ trim)), results := s.markRecord k }

/-- PLACE_MARK (R139). -/
def State.placeMark (port : Port) (n : Nat) (a trim : Int) (s : State) : Carried :=
  underTests ([(badNewNumber n, .badOperand), (badAddress a, .badOperand)] ++ newMarkTests s.marks n)
    (State.makeMark port n a trim) s

/-- The head address as the part stands (R125). -/
def State.headAddr (s : State) : Option Int := headAddress s.map.spans s.geom.head

/-- CAPTURE_MARK (R140). -/
def State.captureMark (port : Port) (n : Nat) (s : State) : Carried :=
  underTests ((badNewNumber n, .badOperand) :: newMarkTests s.marks n)
    (fun s =>
      match s.headAddr with
      | none => refuse .noAddress s
      | some a => s.makeMark port n a 0) s

/-- One mark changed, with its record as the results. -/
def State.editMark (n : Nat) (f : Mark → Mark) (st : Status) (s : State) : Carried :=
  let s := s.setMarks (changeMark n f s.marks)
  { state := s, status := st, results := s.markRecord n }

/-- MOVE_MARK (R141). -/
def State.moveMark (port : Port) (n : Nat) (a : Int) (s : State) : Carried :=
  underTests
    [(badNumber n, .badOperand), (badAddress a, .badOperand), heldTest s.marks n,
     (lockedAgainst port s.marks n, .locked)]
    (fun s => s.editMark n (Mark.moveTo s.map.spans a) .ok) s

/-- TRIM_MARK (R142). -/
def State.trimMark (port : Port) (n : Nat) (trim : Int) (s : State) : Carried :=
  underTests [(badNumber n, .badOperand), heldTest s.marks n, (lockedAgainst port s.marks n, .locked)]
    (State.editMark n (fun m => { m with trim := clampTrim trim }) (clampedIf (decide (clampTrim trim ≠ trim)))) s

/-- The mark of a number belongs to the studio (R132). -/
def studioOwned (marks : List Mark) (n : Nat) : Bool :=
  ((markAt marks n).map (fun m => m.owner == .studio)).getD false

/-- LOCK_MARK and UNLOCK_MARK (R143). -/
def State.setLock (lock : Bool) (n : Nat) (s : State) : Carried :=
  underTests [(badNumber n, .badOperand), heldTest s.marks n, (studioOwned s.marks n, .notPermitted)]
    (State.editMark n (fun m => { m with lock := lock }) .ok) s

/-- Marks leaving the table, their retirement reported to the locate unit (R144, R145). -/
def State.retire (taken : Mark → Bool) (s : State) : State :=
  let gone := s.marks.filter taken
  (s.setMarks (s.marks.filter (fun m => !taken m))).retireTarget (fun n => gone.any (fun m => m.number == n))

/-- RETIRE_MARK (R144). -/
def State.retireMark (port : Port) (n : Nat) (s : State) : Carried :=
  underTests [(badNumber n, .badOperand), heldTest s.marks n, (lockedAgainst port s.marks n, .locked)]
    (fun s => answer [] (s.retire (fun m => m.number == n))) s

/-- RETIRE_MARKS (R145): scope 0 is OWN, 1 is ALL. -/
def State.retireMarks (port : Port) (scope : Nat) (s : State) : Carried :=
  let taken := Mark.retiredBy port (scope == 1)
  underTests [(decide (1 < scope), .badOperand)]
    (fun s => answer (u8 (s.marks.filter taken).length) (s.retire taken)) s

/-- READ_MARK (R146). -/
def State.readMark (n : Nat) (s : State) : Carried :=
  underTests [(badNumber n, .badOperand), heldTest s.marks n]
    (fun s => answer (((markAt s.marks n).map (Mark.encodeRead s.map.spans)).getD []) s) s

/-- LIST_MARKS (R147). -/
def State.listMarks (first : Nat) (s : State) : Carried :=
  underTests [(badNumber first, .badOperand)] (fun s => answer (Machine.listMarks s.marks first) s) s

/-! ## Map (R127, R128) -/

/-- READ_SPANS (R128). -/
def State.readSpans (index : Nat) (s : State) : Carried :=
  underTests [(decide (95 < index), .badOperand)] (fun s => answer (s.map.encode index) s) s

/-- A locate or a chase is active (R127). -/
def State.mapInUse (s : State) : Bool :=
  (match s.arb.active with
    | some m => m.kind == .locate || m.kind == .chase
    | none => false)
  || s.arb.chase == .starting || s.arb.chase == .granted || s.arb.chase == .releasing

/-- FORGET_MAP (R127). -/
def State.forgetMap (s : State) : Carried :=
  underTests [(s.mapInUse, .busy)] (fun s => answer [] (s.mapEvent s.map.flush)) s

/-! ## Profiles (R6, R7) -/

/-- Nmax as stored (R6). -/
def clampNmax (n : Int) : Int := clampTo 2048 40960 n

/-- An inertia point as stored (R6). -/
def clampInertia (j : Int) : Int := clampTo 0 65535 j

/-- SET_PROFILE (R6). -/
def State.setProfile (n : Nat) (ch cf nmax : Int) (js : List Int) (s : State) : Carried :=
  let p : Profile := { ch := ch, cf := cf, nmax := clampNmax nmax, inertia := js.map clampInertia }
  underTests
    [(decide (3 < n), .badOperand), (s.geom.inUse n, .inUse),
     (decide (ch < 1000) || decide (4000 < ch), .badProfile),
     (decide (cf < ch + 500) || decide (8190 < cf), .badProfile)]
    (fun s =>
      { state := s.setGeom (s.geom.setSlot n p)
        status := clampedIf (decide (p.nmax ≠ nmax) || decide (p.inertia ≠ js))
        results := [] }) s

/-- READ_PROFILE (R7). -/
def State.readProfile (n : Nat) (s : State) : Carried :=
  underTests [(decide (3 < n), .badOperand)] (fun s => answer (s.geom.encodeProfile n) s) s

/-! ## Parameters (R202) -/

/-- A parameter written, a drive limit clamping the held word at once (R31, R53, R202). -/
def State.writeParam (n : Nat) (v : Int) (s : State) : State :=
  let s := { s with ports := { s.ports with params := s.ports.params.set n v } }
  if n = Param.supplyLimit then
    { s with tension := { s.tension with axes := s.tension.axes.modify .supply (Axis.clampWord v) } }
  else if n = Param.takeupLimit then
    { s with tension := { s.tension with axes := s.tension.axes.modify .takeup (Axis.clampWord v) } }
  else if n = Param.capstanLimit then
    { s with speed := { s.speed with loop := { s.speed.loop with word := clampTo (-v) v s.speed.loop.word } } }
  else s

/-- A parameter stored, with what its owners do at the change: a level re-examines a waiting chase request (R82, R95).
DEDUCED, safe: log entry 16. -/
def State.storeParam (n : Nat) (v : Int) (s : State) : State :=
  let s := s.writeParam n v
  if Param.panelLevel ≤ n ∧ n ≤ Param.lockoutLevel then s.examineChase else s

/-- SET_PARAMETER (R202). -/
def State.setParameter (n : Nat) (v : Int) (s : State) : Carried :=
  match paramRows[n]? with
  | none => refuse .badOperand s
  | some row =>
    let stored := paramStored n row v
    { state := s.storeParam n stored, status := clampedIf (decide (stored ≠ v)), results := s32 stored }

/-- READ_PARAMETER (R202): value, minimum, maximum and default. -/
def State.readParameter (n : Nat) (s : State) : Carried :=
  match paramRows[n]? with
  | none => refuse .badOperand s
  | some row =>
    answer
      (s32 (s.param n) ++ s32 row.lo ++ s32 row.hi ++ s32 (paramDefault s.seq.mode0High s.seq.mode1High n row)) s

/-! ## Stop report and flags (R185, R200) -/

/-- The stop report's unread flag cleared (R185). -/
def State.clearUnread (s : State) : State := { s with prot := { s.prot with unread := false } }

/-- READ_STOP_REPORT (R185). -/
def State.readStopReport (s : State) : Carried :=
  match s.prot.report with
  | none => refuse .empty s
  | some r => answer (r.encode s.prot.unread) s.clearUnread

/-- CLEAR_FLAGS (R200): action 0 is KEEP, 1 is SET. Bits 13..15 of the operands are ignored. -/
def State.clearFlags (port : Port) (clear action mask : Nat) (s : State) : Carried :=
  underTests [(decide (1 < action), .badOperand)]
    (fun s =>
      let m := if action = 1 then some (BitVec.ofNat 13 mask) else none
      let s := s.onPort port (PortState.clearFlags (BitVec.ofNat 13 clear) m)
      answer (u16 (s.ports.port port).flags.toNat ++ u16 (s.ports.port port).mask.toNat) s) s

/-! ## One request -/

/-- A motion request carries no results (R195). -/
def State.motionRequest (port : Port) (req : MotionReq) (s : State) : Carried :=
  let r := s.motion port req
  { state := r.1, status := r.2, results := [] }

/-- A request its port may send, carried out by its owner (R195). -/
def State.perform (port : Port) (req : Request) (s : State) : Carried :=
  match req with
  | .motion m => s.motionRequest port m
  | .placeMark n a t => s.placeMark port n a t
  | .captureMark n => s.captureMark port n
  | .moveMark n a => s.moveMark port n a
  | .trimMark n t => s.trimMark port n t
  | .lockMark n => s.setLock true n
  | .unlockMark n => s.setLock false n
  | .retireMark n => s.retireMark port n
  | .retireMarks scope => s.retireMarks port scope
  | .readMark n => s.readMark n
  | .listMarks n => s.listMarks n
  | .readSpans i => s.readSpans i
  | .forgetMap => s.forgetMap
  | .setProfile n ch cf nmax js => s.setProfile n ch cf nmax js
  | .readProfile n => s.readProfile n
  | .setParameter n v => s.setParameter n v
  | .readParameter n => s.readParameter n
  | .readStatus => answer (s.encodeStatus port) s
  | .readGeometry => answer s.encodeGeometry s
  | .readStopReport => s.readStopReport
  | .clearFlags clear action mask => s.clearFlags port clear action mask

/-- One slot carried out: the rights test first (R194), then the request. -/
def State.carryOut (port : Port) (kind : Nat) (ops : List Byte) (s : State) : Carried :=
  if notPermitted port kind then refuse .notPermitted s else s.perform port (requestOf kind ops)

end Sys2Proof.Machine
end

