-- ==== Sys2Proof/Machine/Frames.lean ====
section
/-! DEFINITION. Request frames and responses (R188 to R192, R196): the extent of a frame on each port, its tests, the slots
carried out in order, and the response held. -/

namespace Sys2Proof.Machine

/-! ## Reading a frame (R188, R189, R191) -/

/-- One slot as its bytes give it (R196); the operand length is that of `ops`. -/
structure Slot where
  kind : Nat
  condition : Nat
  ops : List Byte
  deriving DecidableEq, Repr

/-- `n` slots taken from the bytes after the slot count, with the bytes left; none when the bytes end first. -/
def takeSlots : Nat → List Byte → Option (List Slot × List Byte)
  | 0, bs => some ([], bs)
  | n + 1, k :: c :: l :: rest =>
    if rest.length < l.toNat then none
    else
      (takeSlots n (rest.drop l.toNat)).map
        (fun r => ({ kind := k.toNat, condition := c.toNat, ops := rest.take l.toNat } :: r.1, r.2))
  | _ + 1, _ => none

/-- The byte sum modulo 256. -/
def byteSum (bs : List Byte) : Byte := bs.foldl (· + ·) 0

/-- The statuses of a frame (R193). -/
inductive FrameStatus where
  | ok
  | frameCheck
  | frameIllegal
  deriving DecidableEq, Repr

/-- The code of a frame status (R193). -/
def FrameStatus.code : FrameStatus → Nat
  | .ok => 0
  | .frameCheck => 1
  | .frameIllegal => 2

/-- What arrives at a port: a frame refused, or a frame taken. -/
inductive Arrival where
  | refused (st : FrameStatus) (tag : Byte)
  | taken (tag : Byte) (slots : List Slot)
  deriving DecidableEq, Repr

/-- A slot passes the structure tests of R191 that bear on it alone. -/
def Slot.legal (x : Slot) : Bool :=
  decide (x.kind ≤ 31) && decide (x.condition ≤ 1) && decide (operandLengths[x.kind]? = some x.ops.length)

/-- No motion request stands in any slot but the last, so that a frame carries at most one (R191). -/
def motionLast (slots : List Slot) : Bool := slots.dropLast.all (fun x => !isMotionKind x.kind)

/-- The structure tests of R191 on the slots of a frame whose count lies in 1..4. -/
def slotsLegal (slots : List Slot) : Bool :=
  slots.all Slot.legal && (slots.head?.map (fun x => decide (x.condition = 0))).getD false && motionLast slots

/-- A frame whose extent is known, tested in the order of R191; `bytes` run from the tag through the check, and `slots` is
none when the slots do not fill them. -/
def testFrame (tag : Byte) (bytes : List Byte) (slots : Option (List Slot)) : Arrival :=
  if byteSum bytes ≠ 0 then .refused .frameCheck tag
  else
    match slots with
    | none => .refused .frameIllegal tag
    | some ss => if slotsLegal ss then .taken tag ss else .refused .frameIllegal tag

/-- The extent of a frame in bytes: tag, count, slots and check (R196). -/
def frameExtent (slots : List Slot) : Nat := 3 + (slots.map (fun x => 3 + x.ops.length)).sum

/-- The MOSI bytes of a panel assertion read as R188 gives; none for a read-only assertion and a partial frame. -/
def panelFrame (mosi : List Byte) : Option Arrival :=
  match mosi with
  | tag :: count :: rest =>
    if count = 0 then none
    else if 4 < count.toNat then some (.refused .frameIllegal tag)
    else
      match takeSlots count.toNat rest with
      | some (slots, _ :: _) => some (testFrame tag (mosi.take (frameExtent slots)) (some slots))
      | _ => none
  | _ => none

/-- The slots of a studio frame, none when the count lies outside 1..4 or they do not fill its bytes exactly (R191). -/
def studioSlots (frame : List Byte) : Option (List Slot) :=
  match frame with
  | _ :: count :: rest =>
    if count = 0 ∨ 4 < count.toNat then none
    else
      match takeSlots count.toNat rest with
      | some (slots, [_]) => some slots
      | _ => none
  | _ => none

/-- The N bytes of a studio frame (R189): below 6 it is refused FRAME_ILLEGAL without a check test, with the tag 0 when it
has none (R191). -/
def studioFrame (frame : List Byte) : Arrival :=
  let tag := frame.headD 0
  if frame.length < 6 then .refused .frameIllegal tag else testFrame tag frame (studioSlots frame)

/-! ## Carrying out the slots (R192) -/

/-- One slot's answer: its status and results. -/
structure SlotAnswer where
  status : Status
  results : List Byte
  deriving DecidableEq, Repr

/-- The slots carried out in order, each under its condition; `prev` says whether the slot before was accepted (R192). -/
def runSlots (port : Port) (prev : Bool) : List Slot → State → State × List SlotAnswer
  | [], s => (s, [])
  | x :: rest, s =>
    if x.condition = 1 ∧ prev = false then
      let r := runSlots port false rest s
      (r.1, { status := .skipped, results := [] } :: r.2)
    else
      let c := s.carryOut port x.kind x.ops
      let r := runSlots port c.status.accepted rest c.state
      (r.1, { status := c.status, results := c.results } :: r.2)

/-! ## Responses (R190, R196) -/

/-- The bytes of one slot of a response (R196). -/
def SlotAnswer.encode (a : SlotAnswer) : List Byte := u8 a.status.code ++ u16 a.results.length ++ a.results

/-- A response frame (R196): its length, tag, frame status, slot count, slots and check. -/
def response (tag : Byte) (st : FrameStatus) (answers : List SlotAnswer) : List Byte :=
  let body := answers.flatMap SlotAnswer.encode
  let bytes := u16 (6 + body.length) ++ [tag] ++ u8 st.code ++ u8 answers.length ++ body
  bytes ++ [-byteSum bytes]

/-- A frame arriving while a response is held releases it unread with RESPONSE_LOST, before any slot (R190). -/
def State.loseHeld (port : Port) (s : State) : State :=
  match (s.ports.port port).held with
  | none => s
  | some _ => (s.onPort port (fun p => { p with held := none })).raiseOn port .responseLost

/-- The response held in a port (R190). -/
def State.holdResponse (port : Port) (bytes : List Byte) (s : State) : State :=
  s.onPort port (fun p => { p with held := some bytes })

/-- A frame arriving at a port (R190 to R193). -/
def State.arrive (port : Port) (a : Arrival) (s : State) : State :=
  let s := s.loseHeld port
  match a with
  | .refused st tag => s.holdResponse port (response tag st [])
  | .taken tag slots =>
    let r := runSlots port true slots s
    r.1.holdResponse port (response tag .ok r.2)

/-- A held response of which `n` or fewer bytes were clocked out stays held; one wholly clocked out is released as read
(R188). -/
def PortState.judgeRead (n : Nat) (p : PortState) : PortState :=
  match p.held with
  | none => p
  | some bytes => if bytes.length ≤ n then { p with held := none } else p

/-- The byte on MISO in position `k` of an assertion (R188): the held response, then 0.
DESIGN CHOICE, safe: log entry 8. -/
def State.miso (s : State) (k : Nat) : Byte := (s.ports.panel.held.getD []).getD k 0

/-- The byte in position `k` that the studio transmitter sends while a response is held: 0xB8, then the response (R189).
DESIGN CHOICE, safe: log entry 8. -/
def State.transmitted (s : State) (k : Nat) : Option Byte := (s.ports.studio.held.map (fun bs => 0xB8#8 :: bs)).bind (·[k]?)

/-- The panel port in or out of an assertion (R188). -/
def State.setAsserted (b : Bool) (s : State) : State := { s with ports := { s.ports with asserted := b } }

/-- The receive state of the studio receiver (R189). -/
def State.setStudioRx (r : RxState) (s : State) : State := { s with ports := { s.ports with studioRx := r } }

/-- The end of a panel assertion (R188): the held response judged, then the frame taken. -/
def State.deassert (mosi : List Byte) (s : State) : State :=
  let s := (s.setAsserted false).onPort .panel (PortState.judgeRead mosi.length)
  match panelFrame mosi with
  | none => s
  | some a => s.arrive .panel a

/-- A studio frame arriving (R189): the receiver returns to HUNT and the frame is taken. -/
def State.studioArrival (frame : List Byte) (s : State) : State :=
  (s.setStudioRx .hunt).arrive .studio (studioFrame frame)

end Sys2Proof.Machine
end

