-- ==== Sys2Proof/Machine/LinkEvents.lean ====
section
/-! DEFINITION. The events of the address link (R203) and the address report (R106 to R108). -/

namespace Sys2Proof.Machine

/-- The receive state of the link replaced. -/
def State.setLinkRx (r : LinkRx) (s : State) : State := { s with ports := { s.ports with linkRx := r } }

/-- A link error (R106, R203): counted, with LINK_ERROR raised. -/
def State.linkError (s : State) : State := (s.setMap s.map.linkError).raise .linkError

/-- The stamped length of a report at a head length (R107). -/
def State.stampLength (s : State) (head : Int) : Int :=
  clampLength (head - roundDiv (s.speed.vMeas * s.param Param.reportLatency) 1000000)

/-- A stamped report is accepted (R108). -/
def State.acceptsReports (s : State) : Bool :=
  s.seq.transport.reading && decide (mag s.speed.vMeas ≤ s.param Param.reportSpeed)

/-- An accepted report (R108): learned, announced, offered for confirmation and handed to the locate unit. -/
def State.takeReport (r : Stamp) (s : State) : State :=
  let s := s.mapEvent (s.map.learn (heldBy s.marks) s.headNow r)
  (s.setMarks (s.marks.map (Mark.confirmedBy (s.param Param.locateWindow) r))).handReport r

/-- An address report (R106 to R108): discarded while the head length is absent or when it is not accepted. -/
def State.addressReport (a : Int) (s : State) : State :=
  match s.geom.head with
  | none => s
  | some h => if s.acceptsReports then s.takeReport { address := a, length := s.stampLength h } else s

/-- The address that three bytes give, most significant first (R203). -/
def linkAddress (high mid low : Byte) : Int := unsignedOf [high, mid, low]

/-- The five bytes of a link frame sum to 0 (R203). -/
def linkCheck (high mid low check : Byte) : Bool := byteSum [0x96#8, high, mid, low, check] == 0

/-- ADDRESS_LINK_FRAME (R203). DEDUCED, safe: log entry 7. -/
def execAddressLinkFrame (high mid low check : Byte) (s : State) : Host.Outcome State Fault Refusal :=
  let s := s.takeCatches.setLinkRx (.hunt false)
  .next (if linkCheck high mid low check then s.addressReport (linkAddress high mid low) else s.linkError)

/-- LOST_SYNC (R203): counted once for a run of non-sync bytes in HUNT. -/
def execLostSync (s : State) : Host.Outcome State Fault Refusal :=
  let s := s.takeCatches
  .next (if s.ports.linkRx = .hunt false then (s.setLinkRx (.hunt true)).linkError else s)

/-- A frame being collected is discarded as a link error (R203); with no frame in progress there is none to discard.
DEDUCED, safe: log entry 7. -/
def State.discardLink (s : State) : State :=
  if s.ports.linkRx = .collecting then (s.setLinkRx (.hunt false)).linkError else s

/-- LINK_GAP_TIMEOUT (R203). -/
def execLinkGapTimeout (s : State) : Host.Outcome State Fault Refusal := .next s.takeCatches.discardLink

/-- LINK_FRAMING_ERROR (R203). -/
def execLinkFramingError (s : State) : Host.Outcome State Fault Refusal := .next s.takeCatches.discardLink

/-- SYNC_BYTE (R203): in HUNT the byte starts a frame; within a frame it is one of its bytes.
DEDUCED, safe: log entry 7. -/
def execSyncByte (s : State) : Host.Outcome State Fault Refusal := .next (s.takeCatches.setLinkRx .collecting)

end Sys2Proof.Machine
end

