-- ==== Sys2Proof/Machine/Counts.lean ====
section
/-! DEFINITION. The encoder counts (R1, R2, R9, R43, R44) and the events their counts lead to (R11, R121). -/

namespace Sys2Proof.Machine

/-! ## Timer roller (R1, R2, R9, R43, R121) -/

/-- A roller count in the estimator windows (R9), the roller history (R43) and the gap count (R121). A count that the head
length discards enters them too (log entry 9). -/
def State.countRoller (sense : Sense) (s : State) : State :=
  ((s.setGeom (s.geom.countWindows s.seq.transport.estimating sense)).setSpeed
    { s.speed with roller := s.speed.roller.count sense.sign }).setMap (s.map.countGap s.acceptsReports)

/-- ROLLER_COUNT (R1, R2): RANGE is taken when the head length discards the count. The count enters the windows under the
state that stands, before RANGE's change of state reopens them; R2 and R9 do not order the two.
DESIGN CHOICE, unsafe: log entry 38. -/
def State.rollerCount (sense : Sense) (s : State) : State :=
  let s := s.countRoller sense
  let h := s.geom.countHead sense
  (s.setGeom h.1).takeCauseIf h.2 .range .none

/-- ROLLER_COUNT (R1). -/
def execRollerCount (sense : Sense) (s : State) : Host.Outcome State Fault Refusal := .next (s.takeCatches.rollerCount sense)

/-- The gap count stands at its limit with a span OPEN (R121). -/
def MapUnit.gapFull (m : MapUnit) : Bool := decide (m.gapCount = 320) && m.openSpan.isSome

/-- GAP_COUNT_LIMIT (R121): the OPEN span closes with EDGE. -/
def execGapCountLimit (s : State) : Host.Outcome State Fault Refusal :=
  let s := s.takeCatches
  .next (if s.map.gapFull then s.setMap (s.map.closeOpen .edge) else s)

/-! ## Reel encoders (R9 to R12, R14, R44) -/

/-- Both reels are measured (R14). -/
def Geometry.measured (g : Geometry) : Bool := g.est.supply.mode == .tracking && g.est.takeup.mode == .tracking

/-- The measuring timer stopped (R14). -/
def State.stopMeasuringTimer (s : State) : State := s.setGeom { s.geom with measuringTimer := false }

/-- Geometry measured, reported to the sequencer (R14, R67). -/
def State.geometryMeasured (s : State) : State :=
  let s := s.stopMeasuringTimer
  if s.seq.transport = .measuring .creep then s.setTransport (.measuring .creepStop) (some .settling) else s

/-- The circumference estimate of a reel count (R9 to R12, R14). -/
def State.estimateReel (r : Reel) (t : Turn) (s : State) : State :=
  let before := s.geom.measured
  let e := (s.geom.est.get r).reelCount r (s.geom.profile r) t
  let s := (s.setGeom { s.geom with est := s.geom.est.set r e.1 }).raiseDue e.2 (.reject r)
  if s.seq.transport.isMeasuring && !before && s.geom.measured then s.geometryMeasured else s

/-- REEL_COUNT (R9, R44). -/
def State.reelCount (r : Reel) (t : Turn) (s : State) : State :=
  let s := s.setSpeed { s.speed with reels := s.speed.reels.modify r (History.count t.sign) }
  if s.seq.transport.estimating then s.estimateReel r t else s

/-- REEL_COUNT (R9). -/
def execReelCount (r : Reel) (t : Turn) (s : State) : Host.Outcome State Fault Refusal :=
  .next (s.takeCatches.reelCount r t)

/-- REJECT_COUNT_LIMIT (R11): GEOMETRY is taken, naming the reel. -/
def execRejectCountLimit (r : Reel) (s : State) : Host.Outcome State Fault Refusal :=
  .next (s.takeCatches.takeDue (.reject r))

/-! ## Capstan encoder (R44) -/

/-- CAPSTAN_COUNT (R44). -/
def execCapstanCount (sense : Sense) (s : State) : Host.Outcome State Fault Refusal :=
  let s := s.takeCatches
  .next (s.setSpeed { s.speed with capstan := s.speed.capstan.count sense.sign })

end Sys2Proof.Machine
end

