-- ==== Sys2Proof/Machine/LineEvents.lean ====
section
/-! DEFINITION. The leader sensor (R74, R177), the external stop line (R178) and the chase request line (R95, R97, R101). -/

namespace Sys2Proof.Machine

/-! ## Leader sensor (R74, R177) -/

/-- The end-of-tape halt (R74, R89), in the states that watch for it. -/
def State.endOfTapeHalt (s : State) : State :=
  if s.seq.transport.watchesLeader then (s.setTransport .halting (some .stopped)).recordStop else s

/-- The cause LEADER (R177): the tape is faster than the end speed as leader appears. -/
def State.leaderCause (s : State) : State :=
  s.takeCauseIf (decide (s.param Param.endSpeed < mag s.speed.vMeas)) .leader .none

/-- Leader appearing under the sensor, the halt and the cause taken in either order (R74). DEDUCED, safe: log entry 26. -/
def State.leaderAppears (haltFirst : Bool) (s : State) : State :=
  if haltFirst then s.endOfTapeHalt.leaderCause else s.leaderCause.endOfTapeHalt

/-- The leader seen value (R63, R74). -/
def State.seeLeader (reading : Leader) (s : State) : State := { s with seq := { s.seq with leaderSeen := reading } }

/-- The leader sensor read (R63, R74): the leader seen value follows it, and a change from TAPE to LEADER acts.
DEDUCED, safe: log entry 29. -/
def State.leaderChange (reading : Leader) (haltFirst : Bool) (s : State) : State :=
  let appears := s.seq.leaderSeen == .tape && reading == .leader
  let s := s.seeLeader reading
  if appears then s.leaderAppears haltFirst else s

/-- LEADER_SENSOR_CHANGE (R74, R177). -/
def execLeaderSensorChange (reading : Leader) (haltFirst : Bool) (s : State) : Host.Outcome State Fault Refusal :=
  .next (s.takeCatches.leaderChange reading haltFirst)

/-! ## External stop line (R178) -/

/-- The level of the external stop line (R178). -/
def State.setExtStop (asserted : Bool) (s : State) : State := { s with prot := { s.prot with extStop := asserted } }

/-- The external stop line taken (R178): a change from released to asserted takes EXT_STOP in both modes.
DEDUCED, safe: log entry 29. -/
def State.extStopChange (asserted : Bool) (s : State) : State :=
  let rises := !s.prot.extStop && asserted
  (s.setExtStop asserted).takeCauseIf rises .extStop .none

/-- EXTERNAL_STOP_LINE_CHANGE (R178). -/
def execExternalStopLineChange (asserted : Bool) (s : State) : Host.Outcome State Fault Refusal :=
  .next (s.takeCatches.extStopChange asserted)

/-- EXT_STOP_LEVEL_CATCH (R178): EXT_STOP is taken as the event that follows a start in LEVEL mode. No other command takes
effect between the two (`State.takeCatches`). -/
def execExtStopLevelCatch (s : State) : Host.Outcome State Fault Refusal := .next (s.takeDue .extStopCatch)

/-! ## Chase request line (R95, R97, R101) -/

/-- The rising edge (R95): IDLE becomes WAITING and is examined; RELEASING becomes WAITING. -/
def State.chaseRise (s : State) : State :=
  let s := s.setChaseLine true
  match s.arb.chase with
  | .idle => (s.setChase .waiting).examineChase
  | .releasing => s.setChase .waiting
  | .waiting | .starting | .granted | .spent => s

/-- CHASE_REQUEST_RISE (R95). A line that is already high has no rising edge. DEDUCED, safe: log entry 29. -/
def execChaseRequestRise (s : State) : Host.Outcome State Fault Refusal :=
  let s := s.takeCatches
  .next (if s.arb.chaseLine then s else s.chaseRise)

/-- The start of a release (R101): the locate in force ends RELEASED (R171), and CHASE enters RELEASING with the kind of
deceleration that R51 gives (`Speed.fixKind`). DEDUCED, unsafe: log entry 33. -/
def State.startRelease (s : State) : State :=
  ((s.endLocate .released).setTransport (.chase .releasing) none).setChase .releasing

/-- The falling edge (R97, R101). -/
def State.chaseFall (s : State) : State :=
  let s := s.setChaseLine false
  match s.arb.chase with
  | .waiting | .spent => s.setChase .idle
  | .starting => (s.setTransport .halting (some .stopped)).setChase .idle
  | .granted => s.startRelease
  | .idle | .releasing => s

/-- CHASE_REQUEST_FALL (R97). A line that is already low has no falling edge. DEDUCED, safe: log entry 29. -/
def execChaseRequestFall (s : State) : Host.Outcome State Fault Refusal :=
  let s := s.takeCatches
  .next (if s.arb.chaseLine then s.chaseFall else s)

end Sys2Proof.Machine
end

