-- ==== Sys2Proof/Machine/PortEvents.lean ====
section
/-! DEFINITION. DEVICE_RESET (R205) and the events of the two request ports (R188, R189). -/

namespace Sys2Proof.Machine

/-- DEVICE_RESET (R205): every block at its reset values with the levels sampled. The commands still waiting come after the
reset (log entry 4), and the free values go on from the ones drawn before it: whether the axis that R38 leaves open is the
same again after a reset is left open (log entry 2). DESIGN CHOICE, unsafe: log entries 1, 2 and 4. -/
def execDeviceReset (levels : ResetLevels) (s : State) : Host.Outcome State Fault Refusal :=
  .next { State.resetWith levels with draws := s.draws, pending := s.pending }

/-- CHIP_SELECT_ASSERTION (R188): an assertion is in progress. -/
def execChipSelectAssertion (s : State) : Host.Outcome State Fault Refusal :=
  .next (s.takeCatches.setAsserted true)

/-- PANEL_DEASSERTION (R188). DEDUCED, safe: log entry 7. -/
def execPanelDeassertion (mosi : List Byte) (tapePath : Switch) (s : State) : Host.Outcome State Fault Refusal :=
  .next ((s.takeCatches.readSwitch tapePath).deassert mosi)

/-- REQUEST_START_BYTE (R189): in HUNT the byte starts a frame; within a frame it is one of its bytes.
DEDUCED, safe: log entry 7. -/
def execRequestStartByte (s : State) : Host.Outcome State Fault Refusal :=
  .next (s.takeCatches.setStudioRx .collecting)

/-- STUDIO_FRAME_ARRIVAL (R189). DEDUCED, safe: log entry 7. -/
def execStudioFrameArrival (frame : List Byte) (tapePath : Switch) (s : State) : Host.Outcome State Fault Refusal :=
  .next ((s.takeCatches.readSwitch tapePath).studioArrival frame)

/-- STUDIO_GAP_TIMEOUT (R189): the partial frame is discarded and the receiver returns to HUNT. -/
def execStudioGapTimeout (s : State) : Host.Outcome State Fault Refusal := .next (s.takeCatches.setStudioRx .hunt)

/-- STUDIO_FRAMING_ERROR (R189): the partial frame is discarded and the receiver returns to HUNT. -/
def execStudioFramingError (s : State) : Host.Outcome State Fault Refusal := .next (s.takeCatches.setStudioRx .hunt)

/-- STUDIO_RESPONSE_SENT (R189): the response counts as read and is released. -/
def execStudioResponseSent (s : State) : Host.Outcome State Fault Refusal :=
  .next (s.takeCatches.onPort .studio (fun p => { p with held := none }))

end Sys2Proof.Machine
end

