-- ==== Sys2Proof/Machine/ServoEvents.lean ====
section
/-! DEFINITION. The four servo periods (R26, R46, R53) and the count limits they lead to (R34, R36, R37, R54, R58, R176). -/

namespace Sys2Proof.Machine

/-! ## Reel axes (R21 to R38) -/

/-- What a servo period of an axis reads as the part stands (R26). C and J are present in every state that computes.
DESIGN CHOICE, safe: log entry 28. -/
def State.axisInputs (s : State) (r : Reel) : AxisInputs :=
  let row := s.seq.transport.tensionRow s.speed.kind
  { reel := r, c := (s.geom.est.get r).c.getD 0, j := (s.geom.inertia r).getD 0, accel := s.speed.accel,
    vRef := s.speed.vRef, vMeas := s.speed.vMeas, target := row.1.value s.ports.params, speedTerm := row.2,
    params := s.ports.params }

/-- The state of an axis after its servo period with an arm reading, and what the period raised (R26). -/
def State.axisAfter (s : State) (r : Reel) (arm : Int) : Axis × AxisRaised :=
  (s.axisInputs r).period s.seq.transport arm (s.tension.axes.get r)

/-- The tension servo with one axis replaced. -/
def State.setAxis (r : Reel) (a : Axis) (s : State) : State :=
  { s with tension := { s.tension with axes := s.tension.axes.set r a } }

/-- The period of one axis, with the counts that reached their limits raised (R34, R36, R37), and whether the axis was
released in it (R25). Conditions that one period completes together are raised low, then high, then saturation.
DESIGN CHOICE, unsafe: log entry 34. -/
def State.axisPeriod (r : Reel) (arm : Int) (s : State) : State × Bool :=
  let p := s.axisAfter r arm
  let s := s.setAxis r p.1
  (((s.raiseDue p.2.low (.low r)).raiseDue p.2.high (.high r)).raiseDue p.2.saturation (.saturation r), p.2.released)

/-- Tension established (R38, R66, R79). -/
def State.tensionEstablished (s : State) : State :=
  if s.retensioning then s.setTransport .settling none
  else if s.seq.creepCancelled then s.setTransport (.measuring .creepStop) (some .settling)
  else s.setTransport (.measuring .creep) none

/-- The first axis out of its band at a threading test (R38). -/
def State.noteOut (r : Reel) (s : State) : State := { s with tension := { s.tension with outAtLastTest := some r } }

/-- The threading test of a period of either axis (R38). -/
def State.threadingTest (s : State) : State :=
  if s.seq.transport = .threading then
    match s.tension.firstOut s.ports.params with
    | none => s.tensionEstablished
    | some r => s.noteOut r
  else s

/-- Both axes are released (R25). -/
def Tension.bothReleased (t : Tension) : Bool := t.axes.supply.released && t.axes.takeup.released

/-- AXIS_SERVO_PERIOD (R26): the period, then the threading test, or the entry to UNTHREADED at the second release.
DEDUCED, unsafe: log entry 12. -/
def State.axisServoPeriod (r : Reel) (arm : Int) (s : State) : State :=
  let p := s.axisPeriod r arm
  if p.2 && p.1.tension.bothReleased then p.1.enterUnthreaded else p.1.threadingTest

/-- AXIS_SERVO_PERIOD (R26). -/
def execAxisServoPeriod (r : Reel) (arm : Fin 4096) (s : State) : Host.Outcome State Fault Refusal :=
  .next (s.takeCatches.axisServoPeriod r (arm.val : Int))

/-- SATURATION_COUNT_LIMIT (R34): DRIVE_SATURATED is taken, naming the axis. -/
def execSaturationCountLimit (r : Reel) (s : State) : Host.Outcome State Fault Refusal :=
  .next (s.takeCatches.takeDue (.saturation r))

/-- LOW_COUNT_LIMIT (R36): TENSION_LOSS is taken, naming the axis. -/
def execLowCountLimit (r : Reel) (s : State) : Host.Outcome State Fault Refusal :=
  .next (s.takeCatches.takeDue (.low r))

/-- HIGH_COUNT_LIMIT (R37): OVER_TENSION is taken, naming the axis. -/
def execHighCountLimit (r : Reel) (s : State) : Host.Outcome State Fault Refusal :=
  .next (s.takeCatches.takeDue (.high r))

/-! ## Capstan loop (R53 to R55) -/

/-- The capstan loop replaced. -/
def State.setLoop (l : CapstanLoop) (s : State) : State := s.setSpeed { s.speed with loop := l }

/-- A capstan period: computed while the loop is active, and nothing otherwise (R53, R55). -/
def State.capstanPeriod (s : State) : State :=
  if s.seq.transport.capstanActive s.speed.kind then
    let p := s.speed.loop.period s.ports.params s.speed.vRef s.speed.vCap
    (s.setLoop p.1).raiseDue p.2 .capstanSaturation
  else s

/-- CAPSTAN_SERVO_PERIOD (R53). -/
def execCapstanServoPeriod (s : State) : Host.Outcome State Fault Refusal := .next s.takeCatches.capstanPeriod

/-- CAPSTAN_SATURATION_LIMIT (R54): DRIVE_SATURATED is taken, naming the capstan. -/
def execCapstanSaturationLimit (s : State) : Host.Outcome State Fault Refusal :=
  .next (s.takeCatches.takeDue .capstanSaturation)

/-! ## Profile generator (R46, R48, R52, R58, R176) -/

/-- The histories advanced, v_ref stepped and A set (R46 steps 1 to 5). -/
def State.generatorStep (s : State) : State :=
  s.setSpeed (s.speed.measure.generate s.ports.params s.geom s.seq.transport)

/-- The overspeed test of one reel in a generator period (R58). -/
def State.testOverspeed (r : Reel) (s : State) : State :=
  let k := overspeedTest (s.geom.profile r) (s.speed.reelRate.get r) (s.speed.overspeed.get r)
  (s.setSpeed { s.speed with overspeed := s.speed.overspeed.set r k.1 }).raiseDue k.2 (.overspeed r)

/-- The tape-out count replaced (R176). -/
def State.setTapeOut (n : Nat) (s : State) : State := { s with prot := { s.prot with tapeOut := n } }

/-- The sample of the tape-path switch in a generator period (R176): it is counted outside UNTHREADED and FAULTED. -/
def State.sampleSwitch (w : Switch) (s : State) : State :=
  let s := s.readSwitch w
  if s.seq.transport.isForced then s
  else
    let k := countConsecutive 3 (w == .opened) s.prot.tapeOut
    (s.setTapeOut k.1).raiseDue k.2 .tapeOut

/-- The chase started by the rest of a STARTING halt (R75, R96). -/
def State.chaseFromRest (s : State) : State := s.enterChase .parked s.recordLevel

/-- The sequencer's change at rest reached (R52, R67, R71, R75, R76, R77). -/
def State.restReached (s : State) : State :=
  match s.seq.transport with
  | .measuring .creepStop =>
    match s.seq.restDest with
    | some .settling => s.setTransport .settling none
    | some .unthreading => s.enterUnthreading
    | _ => s
  | .play .braking => s.setTransport (.play .engage) none
  | .halting =>
    match s.seq.restDest with
    | some .stopped => s.enterStopped
    | some .unthreading => s.enterUnthreading
    | some .chaseParked => s.chaseFromRest
    | _ => s
  | .protectStop => (s.raise .protectedStop).enterStopped
  | .chase .releasing => s.enterStopped
  | _ => s

/-- The completion and rest tests (R46 step 6, R48, R52). A stopping point belongs to no deceleration, so at most one of the
two holds. DEDUCED, unsafe: log entry 12. -/
def State.generatorTests (s : State) : State :=
  if s.speed.pointReached s.geom then
    (s.setSpeed { s.speed with pointReported := true }).pointReached
  else if s.speed.restReached then
    (s.setSpeed { s.speed with restReported := true }).restReached
  else s

/-- PROFILE_GENERATOR_PERIOD (R46, R58, R176). DEDUCED, unsafe: log entry 12. Conditions that one period completes together
are raised supply, then takeup, then the switch. DESIGN CHOICE, unsafe: log entry 34. -/
def State.generatorPeriod (w : Switch) (s : State) : State :=
  ((((s.generatorStep).testOverspeed .supply).testOverspeed .takeup).sampleSwitch w).generatorTests

/-- PROFILE_GENERATOR_PERIOD (R46). -/
def execProfileGeneratorPeriod (tapePath : Switch) (s : State) : Host.Outcome State Fault Refusal :=
  .next (s.takeCatches.generatorPeriod tapePath)

/-- OVERSPEED_COUNT_LIMIT (R58): REEL_OVERSPEED is taken, naming the reel. -/
def execOverspeedCountLimit (r : Reel) (s : State) : Host.Outcome State Fault Refusal :=
  .next (s.takeCatches.takeDue (.overspeed r))

/-- TAPE_OUT_COUNT_LIMIT (R176): TAPE_OUT is taken. -/
def execTapeOutCountLimit (s : State) : Host.Outcome State Fault Refusal :=
  .next (s.takeCatches.takeDue .tapeOut)

end Sys2Proof.Machine
end

