-- ==== Sys2Proof/Machine/TimerEvents.lean ====
section
/-! DEFINITION. The timers (R14, R38, R69, R72, R162) and the end of the located pulse (R169). A timer that does not run
expires without effect. -/

namespace Sys2Proof.Machine

/-- One more free value drawn (log entry 2). -/
def State.drawFree (s : State) : State := { s with draws := s.draws + 1 }

/-- The threading timer stopped (R38). -/
def State.stopThreadingTimer (s : State) : State := { s with tension := { s.tension with threadingTimer := false } }

/-- The threading timer's TENSION_LOSS (R38): the axis the rule states, or a free value where it states none (log entry 2). -/
def State.threadingLoss (s : State) : State :=
  match s.tension.lossAxis s.ports.params with
  | some r => s.takeCause .tensionLoss r.axis
  | none => s.drawFree.takeCause .tensionLoss (Config.unstatedThreadingAxis s.draws).axis

/-- THREADING_TIMER_EXPIRY (R38). -/
def execThreadingTimerExpiry (s : State) : Host.Outcome State Fault Refusal :=
  let s := s.takeCatches
  .next
    (if s.tension.threadingTimer then s.stopThreadingTimer.threadingLoss else s)

/-- The first unmeasured reel, supply then takeup (R14). -/
def Geometry.unmeasured (g : Geometry) : Option Reel :=
  if g.est.supply.mode = .initial then some .supply
  else if g.est.takeup.mode = .initial then some .takeup
  else none

/-- The measuring timer's GEOMETRY (R14). -/
def State.measuringLoss (s : State) : State :=
  match s.geom.unmeasured with
  | some r => s.takeCause .geometry r.axis
  | none => s

/-- MEASURING_TIMER_EXPIRY (R14). -/
def execMeasuringTimerExpiry (s : State) : Host.Outcome State Fault Refusal :=
  let s := s.takeCatches
  .next (if s.geom.measuringTimer then s.stopMeasuringTimer.measuringLoss else s)

/-- SETTLE_TIMER_EXPIRY (R69): SETTLING ends in STOPPED. -/
def execSettleTimerExpiry (s : State) : Host.Outcome State Fault Refusal :=
  let s := s.takeCatches
  .next (if s.seq.settleTimer.isSome then s.enterStopped else s)

/-- ENGAGE_TIMER_EXPIRY (R72): ENGAGE ends in RUNNING. -/
def execEngageTimerExpiry (s : State) : Host.Outcome State Fault Refusal :=
  let s := s.takeCatches
  .next (if s.seq.engageTimer then s.setTransport (.play .running) none else s)

/-- VERIFY_TIMER_EXPIRY (R162). -/
def execVerifyTimerExpiry (s : State) : Host.Outcome State Fault Refusal :=
  let s := s.takeCatches
  .next (if s.locate.verifyTimer then s.verifyExpiry else s)

/-- The located line driven low (R169). -/
def State.endPulse (s : State) : State := { s with locate := { s.locate with located := false } }

/-- LOCATED_PULSE_END (R169): the located line goes low. -/
def execLocatedPulseEnd (s : State) : Host.Outcome State Fault Refusal :=
  .next s.takeCatches.endPulse

end Sys2Proof.Machine
end

