-- ==== Sys2Proof/Machine/Dispatch.lean ====
section
/-! DEFINITION. The dispatch: each command to its own meaning. -/

namespace Sys2Proof.Machine

def exec (i : Instr) (s : State) : Host.Outcome State Fault Refusal :=
  match i with
  | .deviceReset levels => Sys2Proof.Machine.execDeviceReset levels s
  | .panelDeassertion mosi tapePath => Sys2Proof.Machine.execPanelDeassertion mosi tapePath s
  | .studioFrameArrival frame tapePath => Sys2Proof.Machine.execStudioFrameArrival frame tapePath s
  | .studioGapTimeout => Sys2Proof.Machine.execStudioGapTimeout s
  | .studioFramingError => Sys2Proof.Machine.execStudioFramingError s
  | .studioResponseSent => Sys2Proof.Machine.execStudioResponseSent s
  | .addressLinkFrame high mid low check => Sys2Proof.Machine.execAddressLinkFrame high mid low check s
  | .lostSync => Sys2Proof.Machine.execLostSync s
  | .linkGapTimeout => Sys2Proof.Machine.execLinkGapTimeout s
  | .linkFramingError => Sys2Proof.Machine.execLinkFramingError s
  | .rollerCount sense => Sys2Proof.Machine.execRollerCount sense s
  | .gapCountLimit => Sys2Proof.Machine.execGapCountLimit s
  | .reelCount reel turn => Sys2Proof.Machine.execReelCount reel turn s
  | .rejectCountLimit reel => Sys2Proof.Machine.execRejectCountLimit reel s
  | .capstanCount sense => Sys2Proof.Machine.execCapstanCount sense s
  | .axisServoPeriod reel arm => Sys2Proof.Machine.execAxisServoPeriod reel arm s
  | .saturationCountLimit reel => Sys2Proof.Machine.execSaturationCountLimit reel s
  | .lowCountLimit reel => Sys2Proof.Machine.execLowCountLimit reel s
  | .highCountLimit reel => Sys2Proof.Machine.execHighCountLimit reel s
  | .capstanServoPeriod => Sys2Proof.Machine.execCapstanServoPeriod s
  | .capstanSaturationLimit => Sys2Proof.Machine.execCapstanSaturationLimit s
  | .profileGeneratorPeriod tapePath => Sys2Proof.Machine.execProfileGeneratorPeriod tapePath s
  | .overspeedCountLimit reel => Sys2Proof.Machine.execOverspeedCountLimit reel s
  | .tapeOutCountLimit => Sys2Proof.Machine.execTapeOutCountLimit s
  | .threadingTimerExpiry => Sys2Proof.Machine.execThreadingTimerExpiry s
  | .measuringTimerExpiry => Sys2Proof.Machine.execMeasuringTimerExpiry s
  | .settleTimerExpiry => Sys2Proof.Machine.execSettleTimerExpiry s
  | .engageTimerExpiry => Sys2Proof.Machine.execEngageTimerExpiry s
  | .verifyTimerExpiry => Sys2Proof.Machine.execVerifyTimerExpiry s
  | .locatedPulseEnd => Sys2Proof.Machine.execLocatedPulseEnd s
  | .leaderSensorChange reading haltFirst => Sys2Proof.Machine.execLeaderSensorChange reading haltFirst s
  | .externalStopLineChange asserted => Sys2Proof.Machine.execExternalStopLineChange asserted s
  | .extStopLevelCatch => Sys2Proof.Machine.execExtStopLevelCatch s
  | .chaseRequestRise => Sys2Proof.Machine.execChaseRequestRise s
  | .chaseRequestFall => Sys2Proof.Machine.execChaseRequestFall s
  | .chipSelectAssertion => Sys2Proof.Machine.execChipSelectAssertion s
  | .requestStartByte => Sys2Proof.Machine.execRequestStartByte s
  | .syncByte => Sys2Proof.Machine.execSyncByte s

end Sys2Proof.Machine
end

