-- ==== Sys2Proof/Machine/Raised.lean ====
section
/-! DEFINITION. The raised events that have not been taken, as the commands of their own rows (log entry 3). -/

namespace Sys2Proof.Machine

/-- The command of a raised event's row (R11, R34, R36, R37, R54, R58, R176, R178). -/
def Due.command : Due → Instr
  | .reject r => .rejectCountLimit r
  | .saturation r => .saturationCountLimit r
  | .low r => .lowCountLimit r
  | .high r => .highCountLimit r
  | .capstanSaturation => .capstanSaturationLimit
  | .overspeed r => .overspeedCountLimit r
  | .tapeOut => .tapeOutCountLimit
  | .extStopCatch => .extStopLevelCatch

/-- The event that the part itself has ready when no command waits: the catch of a start, which nothing may come before
(R178), else the oldest raised event, else the gap count's limit (R121). -/
def State.nextRaised (s : State) : Option Instr :=
  if s.due.contains .extStopCatch then some .extStopLevelCatch
  else
    match s.due with
    | d :: _ => some d.command
    | [] => if s.map.gapFull then some .gapCountLimit else none

end Sys2Proof.Machine
end

