-- ==== Sys2Proof/Machine/Step.lean ====
section
/-! DEFINITION. The step: the command at the front of the queue, or on an empty queue the event the part itself has ready. -/

namespace Sys2Proof.Machine

/-- One step (log entries 3 and 4): the front command is taken with the queue's rest; with no command waiting, a raised event
is taken as the event of its own row, and without one the part idles. -/
def step (s : State) : Host.Outcome State Fault Refusal :=
  match s.pending with
  | c :: rest => exec c { s with pending := rest }
  | [] =>
    match s.nextRaised with
    | some c => exec c s
    | none => .next s

/-- The command that a word spells put at the front of the queue; the table gives its rows no bits, so no word spells one
(log entry 5). -/
def State.withFetchWord (s : State) (nbits w : Nat) : State :=
  match decodeTableWord nbits w with
  | some c => { s with pending := c :: s.pending }
  | none => s

end Sys2Proof.Machine
end

