-- ==== Sys2Proof/Safety.lean ====
section
/-! DEFINITION. What a safe run of the part keeps: the invariants that the manual's prose states of the whole part, each as a
predicate of the state. -/

namespace Sys2Proof.Machine

/-- The outputs stand as the row of R62 for the state and phase, with the chase grant line high exactly in CHASE (R94), the
generator's mode is that of R45, a deceleration kind is held exactly in a deceleration (R51), and the kind CAPSTAN only in
HALTING, PROTECT_STOP and CHASE RELEASING, whose rows of R62 name it. -/
def OutputsFollow (s : State) : Prop :=
  s.seq.outputs = s.seq.transport.outputs s.speed.kind ∧ s.speed.mode = s.seq.transport.genMode
    ∧ (s.speed.kind.isSome = true ↔ s.speed.mode = .deceleration)
    ∧ (s.speed.kind = some .capstan → s.seq.transport ∈ [Transport.halting, .protectStop, .chase .releasing])

/-- Every parameter lies in its range, and the two two-valued ones hold one of their values (R202). -/
def ParamsInRange (ps : List Int) : Prop :=
  ps.length = paramRows.length
    ∧ (∀ n row, paramRows[n]? = some row → row.lo ≤ paramOf ps n ∧ paramOf ps n ≤ row.hi)
    ∧ (paramOf ps Param.playSpeed = 1905 ∨ paramOf ps Param.playSpeed = 3810)
    ∧ (paramOf ps Param.settleTime = 250 ∨ paramOf ps Param.settleTime = 2000)

/-- Every drive word lies within plus or minus its drive limit (R31, R53). -/
def DriveWordsWithin (s : State) : Prop :=
  (∀ r, mag (s.tension.axes.get r).word ≤ driveLimit s.ports.params r)
    ∧ mag s.speed.loop.word ≤ paramOf s.ports.params Param.capstanLimit

/-- In UNTHREADED and FAULTED the drives are forced (R33, R45, R55, R60): words, integrators and setpoints 0, the reference
held at 0, no stopping point and no released axis. -/
def ForcedAtRest (s : State) : Prop :=
  s.seq.transport.isForced = true →
    (∀ r, (s.tension.axes.get r).word = 0 ∧ (s.tension.axes.get r).tension = 0 ∧ (s.tension.axes.get r).integ = 0
      ∧ (s.tension.axes.get r).released = false)
    ∧ s.speed.vRef = 0 ∧ s.speed.target = 0 ∧ s.speed.accel = 0 ∧ s.speed.loop = .reset ∧ s.speed.stopPoint = none

/-- The head length lies in its range (R1, R2). -/
def HeadInRange (g : Geometry) : Prop := ∀ h, g.head = some h → headMin ≤ h ∧ h ≤ headMax

/-- Each timer runs only in the state or phase that starts it (R14, R38, R69, R72, R162). -/
def TimersFollow (s : State) : Prop :=
  (s.seq.settleTimer.isSome = true → s.seq.transport = .settling)
    ∧ (s.seq.engageTimer = true → s.seq.transport = .play .engage)
    ∧ (s.tension.threadingTimer = true → s.seq.transport = .threading)
    ∧ (s.geom.measuringTimer = true → s.seq.transport.isMeasuring = true)
    ∧ (s.locate.verifyTimer = true → s.seq.transport.locatePhase = some .verify)

/-- The return list holds at most 16 entries (R103). -/
def ReturnsBounded (s : State) : Prop := s.arb.returns.length ≤ Config.maxReturns

/-- The span list (R109, R110, R117): by increasing start length with no two spans sharing length, no two with one number,
every number below 96, every pitch within 39,936..41,984 (R109), and at most one OPEN. -/
def SpansWellFormed (spans : List Span) : Prop :=
  (∀ p ∈ spans, p.startLen ≤ p.lastLen ∧ p.num < Config.maxSpans ∧ 39936 ≤ p.pitch ∧ p.pitch ≤ 41984)
    ∧ spans.Pairwise (fun p q => p.lastLen < q.startLen)
    ∧ spans.Pairwise (fun p q => p.num ≠ q.num)
    ∧ spans.Pairwise (fun p q => ¬(p.isOpen = true ∧ q.isOpen = true))

/-- The mark table (R130, R131): by increasing number, every number below 128, every trim in its range, and no STUDIO mark
locked. -/
def MarksWellFormed (marks : List Mark) : Prop :=
  marks.Pairwise (fun m k => m.number < k.number)
    ∧ ∀ m ∈ marks, m.number < Config.maxMarks ∧ -4096 ≤ m.trim ∧ m.trim ≤ 4095
        ∧ (m.owner = .studio → m.lock = false)

/-- A resolution with its confirmation set aside. -/
def Resolution.unconfirmed : Resolution → Resolution
  | .confirmed n l => .resolved n l
  | r => r

/-- Every mark stands as R134 resolves it against the span list. -/
def MarksResolved (s : State) : Prop := ∀ m ∈ s.marks, m.resolution.unconfirmed = resolve s.map.spans m.address

/-- The stop report's later causes are each held at most once, and unread is set only with a report held (R183 to R185). -/
def ReportWellFormed (p : Protection) : Prop :=
  (p.unread = true → p.report.isSome = true) ∧ ∀ r, p.report = some r → r.later.Nodup

/-! ## Frames as a partner sends them (R188, R189, R196) -/

/-- The bytes of one slot (R196). -/
def Slot.bytes (x : Slot) : List Byte :=
  [BitVec.ofNat 8 x.kind, BitVec.ofNat 8 x.condition, BitVec.ofNat 8 x.ops.length] ++ x.ops

/-- The bytes of a frame before its check: tag, slot count and slots (R196). -/
def frameBody (tag : Byte) (slots : List Slot) : List Byte :=
  tag :: BitVec.ofNat 8 slots.length :: slots.flatMap Slot.bytes

/-- A frame with its right check (R191, R196). -/
def frameBytes (tag : Byte) (slots : List Slot) : List Byte := frameBody tag slots ++ [-byteSum (frameBody tag slots)]

/-- Slots that one frame can spell: 1 to 4 of them, each field in its byte. -/
def FitsFrame (slots : List Slot) : Prop :=
  1 ≤ slots.length ∧ slots.length ≤ 4
    ∧ ∀ x ∈ slots, x.kind < 256 ∧ x.condition < 256 ∧ x.ops.length < 256

/-- The structure tests of R191 on 1 to 4 slots: known kinds and conditions, the operand length of each kind, slot 0 ALWAYS,
and no motion request but in the last slot. -/
def FrameLegal (slots : List Slot) : Prop :=
  (∀ x ∈ slots, x.kind ≤ 31 ∧ x.condition ≤ 1 ∧ operandLengths[x.kind]? = some x.ops.length)
    ∧ (∀ x, slots.head? = some x → x.condition = 0) ∧ ∀ x ∈ slots.dropLast, 11 < x.kind

end Sys2Proof.Machine
end

