-- ==== Sys2Proof/Certificates/Slice0/Obligations.lean ====
section
/-! DEFINITION. The statements for the provers. -/

open Sys2Proof Sys2Proof.Machine

/-- A step runs the command at the front of the queue (00_scope.md, opcode_table.json).
The queue is the model's own (log entry 4). -/
def Obligations.StepRunsFrontCommand : Prop :=
  ∀ (c : Instr) (q : List Instr) (s : State),
    step { s with pending := c :: q } = exec c { s with pending := q }

/-- A caught start is followed by its EXT_STOP whatever comes next; with no command waiting the oldest raised event is taken, else the part idles (R121, R178, R34, R36).
That EXT_STOP takes effect before the next command is the model's reading of R178 (log entry 14); that the part takes
raised events on an empty queue is its choice (log entries 3 and 4). -/
def Obligations.CatchThenOldestRaisedEventTaken : Prop :=
  (∀ s : State, s.pending = [] →
    (Due.extStopCatch ∈ s.due → step s = exec .extStopLevelCatch s)
      ∧ (Due.extStopCatch ∉ s.due → ∀ d rest, s.due = d :: rest → step s = exec d.command s)
      ∧ (s.due = [] → s.map.gapCount = 320 → (∃ p ∈ s.map.spans, p.isOpen = true) → step s = exec .gapCountLimit s)
      ∧ (s.due = [] → (s.map.gapCount ≠ 320 ∨ ∀ p ∈ s.map.spans, p.isOpen = false) → step s = .next s))
    ∧ ∀ (c : Instr) (s t : State), Due.extStopCatch ∈ s.due → c ≠ .extStopLevelCatch → (∀ l, c ≠ .deviceReset l) →
      exec .extStopLevelCatch s = .next t → exec c s = exec c t

/-- DEVICE_RESET leaves every block at the reset values of the manual (R205, R63, R4, R15, R41, R60, R105, R129, R153, R174, R187, R204).
That the waiting commands stay in the queue, and that the counter of free values goes on, are the model's choices (log
entries 4 and 2). -/
def Obligations.DeviceResetGivesResetValues : Prop :=
  ∀ (l : ResetLevels) (s : State), ∃ t, exec (.deviceReset l) s = .next t ∧ t.pending = s.pending ∧ t.draws = s.draws
    ∧ t.seq.transport = .unthreaded ∧ t.seq.restDest = none ∧ t.seq.creepCancelled = false
    ∧ t.seq.settleTimer = none ∧ t.seq.engageTimer = false ∧ t.seq.leaderSeen = l.leader
    ∧ t.seq.mode0High = l.mode0High ∧ t.seq.mode1High = l.mode1High
    ∧ t.seq.outputs
        = { driveEnable := false, brakesReleased := false, pinchDown := false, lifterOut := false, grant := false }
    ∧ t.geom.head = none ∧ (∀ r, t.geom.bound.get r = none
        ∧ t.geom.est.get r = { c := none, mode := .initial, dn := 0, dl := 0, reject := 0 })
    ∧ t.geom.profiles
        = [some { ch := 1795, cf := 5530, nmax := 25600, inertia := [300, 420, 640, 980, 1460, 2100, 2920, 3950] },
           none, none, none]
    ∧ (∀ r, t.tension.axes.get r
        = { arm := 0, tension := 0, integ := 0, word := 0, clamp := .none, satCount := 0, lowCount := 0, highCount := 0,
            released := false })
    ∧ t.tension.threadingTimer = false ∧ t.geom.measuringTimer = false
    ∧ t.speed.roller = { running := 0, periods := List.replicate 16 0 }
    ∧ t.speed.capstan = { running := 0, periods := List.replicate 16 0 }
    ∧ (∀ r, t.speed.reels.get r = { running := 0, periods := List.replicate 16 0 }
        ∧ t.speed.reelRate.get r = 0 ∧ t.speed.overspeed.get r = 0)
    ∧ t.speed.vMeas = 0 ∧ t.speed.vCap = 0 ∧ t.speed.vRef = 0 ∧ t.speed.target = 0 ∧ t.speed.accel = 0
    ∧ t.speed.mode = .forced ∧ t.speed.kind = none ∧ t.speed.stopPoint = none ∧ t.speed.chaseRatio = 4096
    ∧ t.speed.loop = { integ := 0, word := 0, clamp := .none, satCount := 0 }
    ∧ t.arb.active = none ∧ t.arb.slot = none ∧ t.arb.returns = [] ∧ t.arb.chaseLine = l.chaseRequest
    ∧ t.arb.chase = (if l.chaseRequest then .spent else .idle)
    ∧ t.map.spans = [] ∧ t.map.candidate = none ∧ t.map.gapCount = 0 ∧ t.map.linkErrors = 0 ∧ t.marks = []
    ∧ t.locate.active = none ∧ t.locate.result = none ∧ t.locate.located = false ∧ t.locate.verifyTimer = false
    ∧ t.prot.report = none ∧ t.prot.unread = false ∧ t.prot.tapeOut = 0 ∧ t.prot.extStop = l.externalStop
    ∧ (∀ p, (t.ports.port p).held = none ∧ (t.ports.port p).flags = 0 ∧ (t.ports.port p).mask = BitVec.allOnes 13)
    ∧ t.ports.asserted = false ∧ t.ports.studioRx = .hunt ∧ t.ports.linkRx = .hunt false
    ∧ paramOf t.ports.params Param.playSpeed = (if l.mode0High then 1905 else 3810)
    ∧ paramOf t.ports.params Param.settleTime = (if l.mode1High then 2000 else 250)
    ∧ ∀ n row, paramRows[n]? = some row → n ≠ Param.playSpeed → n ≠ Param.settleTime →
        paramOf t.ports.params n = row.default

/-- The state after reset meets every invariant (R205, R62, R202, R31, R33, R103, R110, R130, R134, R183).
State.reset is that state at the levels of Config.resetLevels, the model's choice (log entry 1). -/
def Obligations.ResetMeetsInvariants : Prop :=
  (∀ l : ResetLevels,
      OutputsFollow (State.resetWith l) ∧ ParamsInRange (State.resetWith l).ports.params
        ∧ DriveWordsWithin (State.resetWith l) ∧ ForcedAtRest (State.resetWith l)
        ∧ HeadInRange (State.resetWith l).geom ∧ TimersFollow (State.resetWith l)
        ∧ ReturnsBounded (State.resetWith l) ∧ SpansWellFormed (State.resetWith l).map.spans
        ∧ MarksWellFormed (State.resetWith l).marks ∧ MarksResolved (State.resetWith l)
        ∧ ReportWellFormed (State.resetWith l).prot)
    ∧ State.reset = State.resetWith Config.resetLevels

/-- Receive events change the receive state alone, link errors are counted, and a report not accepted changes nothing (R188, R189, R203, R106, R107, R108).
That a start byte within a frame leaves the receiver collecting is a choice of log entry 7. A later byte of the run,
and a gap or framing error with no frame in progress, change nothing (log entry 7 for the last). What it says of a
command is said of states in which no caught start waits for its EXT_STOP, which every other command takes first (log
entry 14). -/
def Obligations.ReceiveEventsLinkErrorsAndUnacceptedReports : Prop :=
  (∀ s : State, Due.extStopCatch ∉ s.due →
    exec .chipSelectAssertion s = .next { s with ports := { s.ports with asserted := true } }
      ∧ exec .requestStartByte s = .next { s with ports := { s.ports with studioRx := .collecting } }
      ∧ exec .syncByte s = .next { s with ports := { s.ports with linkRx := .collecting } }
      ∧ exec .studioGapTimeout s = .next { s with ports := { s.ports with studioRx := .hunt } }
      ∧ exec .studioFramingError s = .next { s with ports := { s.ports with studioRx := .hunt } }
      ∧ exec .studioResponseSent s
          = .next { s with ports := { s.ports with studio := { s.ports.studio with held := none } } })
    ∧ ((∀ s : State, Due.extStopCatch ∉ s.due →
    (∀ rx : LinkRx,
      ∃ e : State, e = { s with
        map := { s.map with linkErrors := min (s.map.linkErrors + 1) 255 }
        ports := { s.ports with
          linkRx := rx
          panel := { s.ports.panel with flags := s.ports.panel.flags ||| 1024#13 }
          studio := { s.ports.studio with flags := s.ports.studio.flags ||| 1024#13 } } }
      ∧ (rx = .hunt false → ∀ high mid low check : Byte, 0x96#8 + high + mid + low + check ≠ 0 →
          exec (.addressLinkFrame high mid low check) s = .next e)
      ∧ (rx = .hunt true → s.ports.linkRx = .hunt false → exec .lostSync s = .next e)
      ∧ (rx = .hunt false → s.ports.linkRx = .collecting →
          exec .linkGapTimeout s = .next e ∧ exec .linkFramingError s = .next e))
    ∧ (s.ports.linkRx ≠ .hunt false → exec .lostSync s = .next s)
    ∧ (s.ports.linkRx ≠ .collecting → exec .linkGapTimeout s = .next s ∧ exec .linkFramingError s = .next s))
    ∧ ∀ (high mid low check : Byte) (s : State), 0x96#8 + high + mid + low + check = 0 →
        Due.extStopCatch ∉ s.due →
        (s.geom.head = none ∨ s.seq.transport.reading = false
          ∨ paramOf s.ports.params Param.reportSpeed < mag s.speed.vMeas) →
        exec (.addressLinkFrame high mid low check) s
          = .next { s with ports := { s.ports with linkRx := .hunt false } })

/-- A panel assertion without a whole frame only releases a response clocked out, and a refused frame is only answered (R188, R190, R191, R193, R196).
What it says of a command is said of states in which no caught start waits for its EXT_STOP, which every other command
takes first (log entry 14). -/
def Obligations.PartialFrameOnlyReleasesAndRefusedFrameOnlyAnswers : Prop :=
  ((∀ (mosi : List Byte) (w : Switch) (s : State), (mosi.length < 2 ∨ mosi[1]? = some 0#8) →
    Due.extStopCatch ∉ s.due →
    exec (.panelDeassertion mosi w) s
      = .next { s with
          tapePath := w
          ports := { s.ports with
            asserted := false
            panel := { s.ports.panel with
              held := s.ports.panel.held.filter (fun b => decide (mosi.length < b.length)) } } })
    ∧ ∀ (tag : Byte) (slots : List Slot) (n : Nat) (w : Switch) (s : State), FitsFrame slots → 2 ≤ n →
        n < (frameBytes tag slots).length → Due.extStopCatch ∉ s.due →
        exec (.panelDeassertion ((frameBytes tag slots).take n) w) s
          = .next { s with
              tapePath := w
              ports := { s.ports with
                asserted := false
                panel := { s.ports.panel with
                  held := s.ports.panel.held.filter (fun b => decide (n < b.length)) } } })
    ∧ ((∀ (frame : List Byte) (st : FrameStatus) (tag : Byte) (w : Switch) (s : State), studioFrame frame = .refused st tag →
      Due.extStopCatch ∉ s.due →
      exec (.studioFrameArrival frame w) s
        = .next { s with
            tapePath := w
            ports := { s.ports with
              studioRx := .hunt
              studio :=
                { flags := s.ports.studio.flags ||| (if s.ports.studio.held.isSome then 4096#13 else 0#13)
                  mask := s.ports.studio.mask
                  held := some [0#8, 6#8, tag, BitVec.ofNat 8 st.code, 0#8,
                    -(6#8 + tag + BitVec.ofNat 8 st.code)] } } })
    ∧ ∀ (mosi : List Byte) (st : FrameStatus) (tag : Byte) (w : Switch) (s : State),
      panelFrame mosi = some (.refused st tag) → Due.extStopCatch ∉ s.due →
      exec (.panelDeassertion mosi w) s
        = .next { s with
            tapePath := w
            ports := { s.ports with
              asserted := false
              panel :=
                { flags := s.ports.panel.flags
                    ||| (if s.ports.panel.held.any (fun b => decide (mosi.length < b.length)) then 4096#13 else 0#13)
                  mask := s.ports.panel.mask
                  held := some [0#8, 6#8, tag, BitVec.ofNat 8 st.code, 0#8,
                    -(6#8 + tag + BitVec.ofNat 8 st.code)] } } })

/-- Frames are refused by the first test of R191 that fails and taken exactly when all pass, on both ports (R188, R189, R191, R196). -/
def Obligations.FrameTestsInOrder : Prop :=
  (∀ (tag : Byte) (slots : List Slot) (more : List Byte), FitsFrame slots →
    (FrameLegal slots →
      panelFrame (frameBytes tag slots ++ more) = some (.taken tag slots)
        ∧ studioFrame (frameBytes tag slots) = .taken tag slots)
      ∧ (¬ FrameLegal slots →
        panelFrame (frameBytes tag slots ++ more) = some (.refused .frameIllegal tag)
          ∧ studioFrame (frameBytes tag slots) = .refused .frameIllegal tag))
    ∧ (∀ frame : List Byte, frame.length < 6 → studioFrame frame = .refused .frameIllegal (frame.headD 0))
        ∧ (∀ frame : List Byte, 6 ≤ frame.length → byteSum frame ≠ 0 →
            studioFrame frame = .refused .frameCheck (frame.headD 0))
        ∧ (∀ (tag count : Byte) (rest : List Byte), (count = 0 ∨ 4 < count.toNat) → 4 ≤ rest.length →
            byteSum (tag :: count :: rest) = 0 → studioFrame (tag :: count :: rest) = .refused .frameIllegal tag)
        ∧ (∀ frame : List Byte, 6 ≤ frame.length → byteSum frame = 0 →
            (∀ (tag : Byte) (slots : List Slot), FitsFrame slots → frame ≠ frameBytes tag slots) →
            studioFrame frame = .refused .frameIllegal (frame.headD 0))
        ∧ (∀ (tag count : Byte) (rest : List Byte), 4 < count.toNat →
            panelFrame (tag :: count :: rest) = some (.refused .frameIllegal tag))
        ∧ ∀ (tag check : Byte) (slots : List Slot) (more : List Byte), FitsFrame slots →
            check ≠ -byteSum (frameBody tag slots) →
            panelFrame (frameBody tag slots ++ check :: more) = some (.refused .frameCheck tag)

/-- A legal frame of one to four slots runs its slots in order and holds its response (R188, R189, R190, R192, R195, R196).
What it says of a command is said of states in which no caught start waits for its EXT_STOP, which every other command
takes first (log entry 14). -/
def Obligations.LegalFrameRunsItsSlots : Prop :=
  (∀ (tag : Byte) (kind : Nat) (ops : List Byte) (w : Switch) (s : State), kind ≤ 31 →
    operandLengths[kind]? = some ops.length → Due.extStopCatch ∉ s.due →
    (let s1 : State := { s with
        tapePath := w
        ports := { s.ports with
          studioRx := .hunt
          studio := { s.ports.studio with
            held := none
            flags := s.ports.studio.flags ||| (if s.ports.studio.held.isSome then 4096#13 else 0#13) } } }
      let c := s1.carryOut .studio kind ops
      exec (.studioFrameArrival (frameBytes tag [⟨kind, 0, ops⟩]) w) s
        = .next { c.state with ports := { c.state.ports with studio := { c.state.ports.studio with
            held := some (response tag .ok [⟨c.status, c.results⟩]) } } })
      ∧ (let frame := frameBytes tag [⟨kind, 0, ops⟩]
        let s1 : State := { s with
          tapePath := w
          ports := { s.ports with
            asserted := false
            panel := { s.ports.panel with
              held := none
              flags := s.ports.panel.flags
                ||| (if s.ports.panel.held.any (fun b => decide (frame.length < b.length)) then 4096#13 else 0#13) } } }
        let c := s1.carryOut .panel kind ops
        exec (.panelDeassertion frame w) s
          = .next { c.state with ports := { c.state.ports with panel := { c.state.ports.panel with
              held := some (response tag .ok [⟨c.status, c.results⟩]) } } }))
    ∧ ∀ (tag : Byte) (slots : List Slot) (w : Switch) (s : State), FitsFrame slots → FrameLegal slots →
      Due.extStopCatch ∉ s.due →
      (let s1 : State := { s with
          tapePath := w
          ports := { s.ports with
            studioRx := .hunt
            studio := { s.ports.studio with
              held := none
              flags := s.ports.studio.flags ||| (if s.ports.studio.held.isSome then 4096#13 else 0#13) } } }
        let r := runSlots .studio true slots s1
        exec (.studioFrameArrival (frameBytes tag slots) w) s
          = .next { r.1 with ports := { r.1.ports with studio := { r.1.ports.studio with
              held := some (response tag .ok r.2) } } })
      ∧ ∀ more mosi : List Byte, mosi = frameBytes tag slots ++ more →
        (let s1 : State := { s with
            tapePath := w
            ports := { s.ports with
              asserted := false
              panel := { s.ports.panel with
                held := none
                flags := s.ports.panel.flags
                  ||| (if s.ports.panel.held.any (fun b => decide (mosi.length < b.length)) then 4096#13 else 0#13) } } }
          let r := runSlots .panel true slots s1
          exec (.panelDeassertion mosi w) s
            = .next { r.1 with ports := { r.1.ports with panel := { r.1.ports.panel with
                held := some (response tag .ok r.2) } } })

/-- Slots run in order, and a conditional slot runs only after an accepted one (R192, R193). -/
def Obligations.ConditionalSlotsRunAfterAccepted : Prop :=
  (∀ st : Status, st.accepted = true ↔ st = .ok ∨ st = .clamped ∨ st = .pending)
    ∧ (∀ (port : Port) (prev : Bool) (x : Slot) (rest : List Slot) (s : State), x.condition = 0 ∨ prev = true →
        runSlots port prev (x :: rest) s
          = ((runSlots port (s.carryOut port x.kind x.ops).status.accepted rest (s.carryOut port x.kind x.ops).state).1,
             ⟨(s.carryOut port x.kind x.ops).status, (s.carryOut port x.kind x.ops).results⟩
               :: (runSlots port (s.carryOut port x.kind x.ops).status.accepted rest
                    (s.carryOut port x.kind x.ops).state).2))
    ∧ (∀ (port : Port) (x : Slot) (rest : List Slot) (s : State), x.condition = 1 →
        runSlots port false (x :: rest) s
          = ((runSlots port false rest s).1, ⟨.skipped, []⟩ :: (runSlots port false rest s).2))
    ∧ (∀ (port : Port) (x y : Slot) (rest : List Slot) (s : State), x.condition = 1 → y.condition = 0 →
        runSlots port false (x :: y :: rest) s
          = ((runSlots port (s.carryOut port y.kind y.ops).status.accepted rest (s.carryOut port y.kind y.ops).state).1,
             ⟨.skipped, []⟩ :: ⟨(s.carryOut port y.kind y.ops).status, (s.carryOut port y.kind y.ops).results⟩
               :: (runSlots port (s.carryOut port y.kind y.ops).status.accepted rest
                    (s.carryOut port y.kind y.ops).state).2))
    ∧ ∀ (port : Port) (slots : List Slot) (s : State), (∀ x ∈ slots, x.condition = 1) →
        runSlots port false slots s = (s, slots.map (fun _ => ⟨.skipped, []⟩))

/-- Every response frame carries its length, tag, frame status, count and, slot by slot, status, result length and results, and sums to 0 (R193, R196). -/
def Obligations.ResponseCarriesLengthAndCheck : Prop :=
  (∀ (tag : Byte) (st : FrameStatus) (answers : List SlotAnswer), (response tag st answers).length < 65536 →
    byteSum (response tag st answers) = 0
      ∧ unsignedOf ((response tag st answers).take 2) = (response tag st answers).length
      ∧ (response tag st answers)[2]? = some tag
      ∧ (response tag st answers)[3]? = some (BitVec.ofNat 8 st.code)
      ∧ (response tag st answers)[4]? = some (BitVec.ofNat 8 answers.length)
      ∧ ((response tag st answers).drop 5).dropLast
          = answers.flatMap (fun a => BitVec.ofNat 8 a.status.code :: BitVec.ofNat 8 (a.results.length / 256)
              :: BitVec.ofNat 8 (a.results.length % 256) :: a.results)
      ∧ ∀ a ∈ answers, a.results.length < 65536)
    ∧ [FrameStatus.ok, .frameCheck, .frameIllegal].map FrameStatus.code = [0, 1, 2]
    ∧ [Status.ok, .clamped, .pending, .skipped, .busy, .lockedOut, .badState, .notPermitted, .noTape, .badProfile, .inUse,
        .noSuchMark, .markExists, .tableFull, .locked, .noMap, .noAddress, .empty, .badOperand].map Status.code
        = [0, 1, 2, 3, 4, 5, 6, 7, 8, 9, 10, 11, 12, 13, 14, 15, 16, 17, 18]
    ∧ ∀ (port : Port) (kind : Nat) (ops : List Byte) (s : State), (s.carryOut port kind ops).status ≠ .ok →
        (s.carryOut port kind ops).status ≠ .clamped → (s.carryOut port kind ops).results = []

/-- Each kind is refused by its port's rights or carried out by its owner with its operand bytes read as their fields (R194, R195, R196).
The kinds 20, 21, 22, 25, 27, 28, 29 and 30 are spelt out in ReadsAnswerTheStateAsItStands. What each
owner's operation then does is said of the operation, in the statement of its family. -/
def Obligations.RightsTestOfEachPort : Prop :=
  (∀ (port : Port) (kind : Nat) (ops : List Byte) (s : State), kind ≤ 31 →
    ((port = .panel ∧ kind = 11) ∨ (port = .studio ∧ kind ∈ [8, 9, 10, 16, 17, 23, 24, 26]) →
      s.carryOut port kind ops = { state := s, status := .notPermitted, results := [] })
    ∧ (¬((port = .panel ∧ kind = 11) ∨ (port = .studio ∧ kind ∈ [8, 9, 10, 16, 17, 23, 24, 26])) →
      s.carryOut port kind ops = s.perform port (requestOf kind ops)))
    ∧ ∀ (port : Port) (n a b c d e f : Byte) (q : Nat → Byte) (s : State) (word : Byte → Byte → Byte → Byte → Int)
        (half : Byte → Byte → Int) (v : Nat → Int) (motion : Port → MotionReq → Carried),
      (∀ a b c d, word a b c d = ((a.toNat * 16777216 + b.toNat * 65536 + c.toNat * 256 + d.toNat : Nat) : Int)
        - (if 128 ≤ a.toNat then 4294967296 else 0)) →
      (∀ a b, half a b = ((a.toNat * 256 + b.toNat : Nat) : Int) - (if 128 ≤ a.toNat then 65536 else 0)) →
      (∀ i, v i = word (q (4 * i)) (q (4 * i + 1)) (q (4 * i + 2)) (q (4 * i + 3))) →
      (∀ p req, motion p req = { state := (s.motion p req).1, status := (s.motion p req).2, results := [] }) →
      s.carryOut port 0 [] = motion port .stop
        ∧ s.carryOut port 1 [] = motion port .play
        ∧ s.carryOut port 2 [a, b, c, d] = motion port (.wind (word a b c d))
        ∧ s.carryOut port 3 [a, b, c, d] = motion port (.shuttle (word a b c d))
        ∧ s.carryOut port 4 [n] = motion port (.locateMark n.toNat)
        ∧ s.carryOut port 5 [a, b, c, d] = motion port (.locateAddress (word a b c d))
        ∧ s.carryOut port 6 [a, b, c, d] = motion port (.locateLength (word a b c d))
        ∧ s.carryOut port 7 [] = motion port .returnBack
        ∧ s.carryOut .panel 8 [a, b] = motion .panel (.thread a.toNat b.toNat)
        ∧ s.carryOut .panel 9 [] = motion .panel .unthread
        ∧ s.carryOut .panel 10 [] = motion .panel .clearFault
        ∧ s.carryOut .studio 11 [a, b] = motion .studio (.chaseSpeed (a.toNat * 256 + b.toNat))
        ∧ s.carryOut port 12 [n, a, b, c, d, e, f] = s.placeMark port n.toNat (word a b c d) (half e f)
        ∧ s.carryOut port 13 [n] = s.captureMark port n.toNat
        ∧ s.carryOut port 14 [n, a, b, c, d] = s.moveMark port n.toNat (word a b c d)
        ∧ s.carryOut port 15 [n, e, f] = s.trimMark port n.toNat (half e f)
        ∧ s.carryOut .panel 16 [n] = s.setLock true n.toNat
        ∧ s.carryOut .panel 17 [n] = s.setLock false n.toNat
        ∧ s.carryOut port 18 [n] = s.retireMark port n.toNat
        ∧ s.carryOut port 19 [n] = s.retireMarks port n.toNat
        ∧ s.carryOut .panel 23 [] = s.forgetMap
        ∧ s.carryOut .panel 24 (n :: (List.range 44).map q)
            = s.setProfile n.toNat (v 0) (v 1) (v 2) [v 3, v 4, v 5, v 6, v 7, v 8, v 9, v 10]
        ∧ s.carryOut .panel 26 [n, a, b, c, d] = s.setParameter n.toNat (word a b c d)
        ∧ s.carryOut port 31 [a, b, n, c, d]
            = s.clearFlags port (a.toNat * 256 + b.toNat) n.toNat (c.toNat * 256 + d.toNat)

/-- Each read answers its fields as they stand and changes no state, save that READ_STOP_REPORT clears unread (R7, R128, R131, R146, R147, R183, R185, R196, R197, R198, R202).
That each absent field carries a presence byte, each list its count and READ_PROFILE's fields presence bytes of their
own is the model's layout (log entry 18), and an absent circumference of a report reads 0 (log entry 21). -/
def Obligations.ReadsAnswerTheStateAsItStands : Prop :=
  ∀ (port : Port) (b : Byte) (s : State) (reel : Reel → List Byte) (mark : Mark → List Byte) (span : Span → List Byte)
      (ok : List Byte → Carried), (∀ bs, ok bs = { state := s, status := .ok, results := bs }) →
    (∀ r, reel r = optional 1 u8 (s.geom.bound.get r) ++ u8 (s.geom.est.get r).mode.code
      ++ optional 4 s32 (s.geom.est.get r).c ++ optional 4 s32 (s.geom.inertia r) ++ optional 4 s32 (s.geom.speedLimit r)
      ++ s32 (s.tension.axes.get r).arm ++ s32 (s.tension.axes.get r).word) →
    (∀ m, mark m = u8 m.number ++ s32 m.address ++ s16 m.trim ++ u8 m.owner.code ++ flagByte m.lock
      ++ u8 m.resolution.code ++ optional 1 u8 (m.resolution.place.map (fun p => p.1))
      ++ optional 4 s32 (m.resolution.place.map (fun p => p.2))) →
    (∀ p, span p = u8 p.num ++ s32 p.startLen ++ s32 p.lastLen ++ s32 p.startAddr
      ++ s32 (p.startAddr + roundDiv ((p.lastLen - p.startLen) * 1024) p.pitch) ++ s32 p.pitch ++ s32 p.anchors
      ++ u8 (if p.isOpen then 0 else 1) ++ u8 p.startKind.code ++ u8 p.lastKind.code) →
    s.carryOut port 28 [] = ok (
        u8 s.seq.transport.code ++ optional 1 u8 s.seq.transport.phaseCode
          ++ optional 1 u8 (s.seq.restDest.map RestDest.code)
          ++ optional 4 s32 s.geom.head ++ optional 4 s32 (headAddress s.map.spans s.geom.head)
          ++ s32 s.speed.vMeas ++ s32 s.speed.vRef
          ++ (optional 3 (fun m : Motion => u8 m.kind.code ++ u8 m.source.code ++ u8 m.level.toNat) s.arb.active
            ++ optional 2 (fun h : Held => u8 h.req.code ++ u8 h.port.code) s.arb.slot
            ++ u8 s.arb.chase.code ++ flagByte s.arb.chaseLine ++ flagByte s.seq.outputs.grant
            ++ u8 s.arb.returns.length
            ++ optional 9 (fun e : ReturnEntry => s32 e.length ++ optional 4 s32 e.address) s.arb.returns.head?)
          ++ (optional 8 (fun r : LocateRecord => u8 r.target.code
                ++ u8 ((s.seq.transport.locatePhase.map LocatePhase.code).getD 0) ++ u8 r.retries ++ u8 r.limit
                ++ s32 r.stopPoint) s.locate.active
            ++ optional 12 (fun r : LocateResult => u8 r.target.code ++ u8 r.outcome.code ++ u8 r.retries ++ s32 r.head
                ++ optional 4 s32 r.error) s.locate.result)
          ++ flagByte s.prot.report.isSome ++ optional 1 u8 (s.prot.report.map (fun r => r.cause.code))
          ++ flagByte s.prot.unread ++ flagByte (s.tapePath == .closed) ++ flagByte (s.seq.leaderSeen == .leader)
          ++ u16 (s.ports.port port).flags.toNat ++ u16 (s.ports.port port).mask.toNat)
      ∧ s.carryOut port 29 [] = ok (reel .supply ++ reel .takeup ++ s32 s.speed.loop.word)
      ∧ (s.prot.report = none → s.carryOut port 30 [] = { state := s, status := .empty, results := [] })
      ∧ (∀ r, s.prot.report = some r →
        ∃ t : State, t = { s with prot := { s.prot with unread := false } }
          ∧ s.carryOut port 30 [] = { ok (
            u8 r.cause.code ++ u8 r.axis.code ++ u8 r.transport.code ++ optional 1 u8 r.transport.phaseCode
            ++ optional 2 (fun m : MotionKind × Source => u8 m.1.code ++ u8 m.2.code) r.motion
            ++ optional 4 s32 r.head ++ s32 r.vMeas ++ s32 r.arms.supply ++ s32 r.arms.takeup ++ s32 r.words.supply
            ++ s32 r.words.takeup ++ s32 r.capstanWord ++ s32 (r.circumferences.supply.getD 0)
            ++ s32 (r.circumferences.takeup.getD 0) ++ u16 (causeSet r.later) ++ flagByte s.prot.unread) with state := t })
      ∧ (127 < b.toNat → s.carryOut port 20 [b] = { state := s, status := .badOperand, results := [] }
        ∧ s.carryOut port 21 [b] = { state := s, status := .badOperand, results := [] })
      ∧ (b.toNat ≤ 127 →
        (markAt s.marks b.toNat = none → s.carryOut port 20 [b] = { state := s, status := .noSuchMark, results := [] })
        ∧ (∀ m, markAt s.marks b.toNat = some m → s.carryOut port 20 [b] = ok (
            mark m ++ u8 (m.candidateLengths s.map.spans).length
              ++ (m.candidateLengths s.map.spans).flatMap (fun c => u8 c.1 ++ s32 c.2)))
        ∧ ∀ ms, ms = (s.marks.filter (fun m => decide (b.toNat ≤ m.number))).take 8 →
          s.carryOut port 21 [b] = ok (
            u8 s.marks.length ++ (u8 ms.length
              ++ ms.flatMap (fun m => mark m ++ u8 m.resolution.candidates.length))))
      ∧ (95 < b.toNat → s.carryOut port 22 [b] = { state := s, status := .badOperand, results := [] })
      ∧ (b.toNat ≤ 95 → ∀ ps, ps = (s.map.spans.drop b.toNat).take 6 →
        s.carryOut port 22 [b] = ok (
          u8 s.map.spans.length ++ optional 1 u8 ((s.map.spans.find? (fun p => p.isOpen)).map (fun p => p.num))
            ++ optional 8 (fun c : Stamp => s32 c.address ++ s32 c.length) s.map.candidate ++ u8 s.map.linkErrors
            ++ (u8 ps.length ++ ps.flatMap span)))
      ∧ (3 < b.toNat → s.carryOut port 25 [b] = { state := s, status := .badOperand, results := [] })
      ∧ (b.toNat ≤ 3 → ∀ p : Option Profile, p = (s.geom.profiles[b.toNat]?).getD none →
        s.carryOut port 25 [b] = ok (
          u8 (if p.isSome then 1 else 0)
            ++ u8 ((if s.geom.bound.supply = some b.toNat then 1 else 0)
              + (if s.geom.bound.takeup = some b.toNat then 2 else 0))
            ++ optional 4 s32 (p.map (fun p => p.ch)) ++ optional 4 s32 (p.map (fun p => p.cf))
            ++ optional 4 s32 (p.map (fun p => p.nmax))
            ++ (List.range 8).flatMap (fun k => optional 4 s32 (p.map (fun p => p.pointInertia k)))
            ++ (List.range 8).flatMap (fun k => optional 4 s32 (p.map (fun p => p.pointPos k)))))
      ∧ (37 < b.toNat → s.carryOut port 27 [b] = { state := s, status := .badOperand, results := [] })
      ∧ ∀ row, paramRows[b.toNat]? = some row →
        s.carryOut port 27 [b] = ok (
          s32 (paramOf s.ports.params b.toNat) ++ s32 row.lo ++ s32 row.hi
            ++ s32 (if b.toNat = Param.playSpeed then (if s.seq.mode0High then 1905 else 3810)
                else if b.toNat = Param.settleTime then (if s.seq.mode1High then 2000 else 250)
                else row.default))

/-- A port's attention line is high exactly while an enabled flag is set, and low at reset (R201). -/
def Obligations.AttentionFollowsEnabledFlags : Prop :=
  (∀ p : PortState, p.attention = true ↔ ∃ f : Flag, p.has f = true ∧ p.mask.getLsbD f.bit = true)
    ∧ ∀ (l : ResetLevels) (port : Port), ((State.resetWith l).ports.port port).attention = false

/-- CLEAR_FLAGS clears the named flags and sets the mask of its own port alone (R200). -/
def Obligations.ClearFlagsTouchesItsPortAlone : Prop :=
  ∀ (port : Port) (clear action mask : Nat) (s : State),
    (1 < action → s.clearFlags port clear action mask = { state := s, status := .badOperand, results := [] })
    ∧ (action ≤ 1 →
        ∃ (t : State) (q : PortState),
          s.clearFlags port clear action mask
            = { state := t, status := .ok, results := u16 q.flags.toNat ++ u16 q.mask.toNat }
          ∧ (∀ f : Flag, q.has f = ((s.ports.port port).has f && !clear.testBit f.bit))
          ∧ q.held = (s.ports.port port).held
          ∧ (action = 0 → q.mask = (s.ports.port port).mask)
          ∧ (action = 1 → ∀ f : Flag, q.mask.getLsbD f.bit = mask.testBit f.bit)
          ∧ t = { s with ports := match port with
              | .panel => { s.ports with panel := q }
              | .studio => { s.ports with studio := q } })

/-- SET_PARAMETER stores the value clamped or snapped to its range, clamps a held word to a new limit, and changes no more (R202, R31, R53, R82). -/
def Obligations.SetParameterStoresInRange : Prop :=
  ∀ (n : Nat) (v : Int) (s : State),
    (37 < n → s.setParameter n v = { state := s, status := .badOperand, results := [] })
    ∧ ∀ row, paramRows[n]? = some row → s.ports.params.length = 38 →
        ∃ (t : State) (stored : Int),
          s.setParameter n v = { state := t, status := if stored = v then .ok else .clamped, results := s32 stored }
          ∧ paramOf t.ports.params n = stored
          ∧ (n = Param.playSpeed → stored = if v ≤ 2857 then 1905 else 3810)
          ∧ (n = Param.settleTime → stored = if v ≤ 1125 then 250 else 2000)
          ∧ (n ≠ Param.playSpeed → n ≠ Param.settleTime → stored = max row.lo (min row.hi v))
          ∧ (∀ k, k ≠ n → paramOf t.ports.params k = paramOf s.ports.params k)
          ∧ t.marks = s.marks ∧ t.prot = s.prot ∧ t.arb.returns = s.arb.returns
          ∧ (n < Param.panelLevel ∨ Param.lockoutLevel < n ∨ s.arb.chase ≠ .waiting →
            t = { s with
                ports := { s.ports with params := s.ports.params.set n stored }
                tension := t.tension
                speed := t.speed })
          ∧ (n = Param.supplyLimit → t.speed = s.speed ∧ t.tension = { s.tension with
              axes := s.tension.axes.set .supply { s.tension.axes.supply with
                word := max (-stored) (min stored s.tension.axes.supply.word) } })
          ∧ (n = Param.takeupLimit → t.speed = s.speed ∧ t.tension = { s.tension with
              axes := s.tension.axes.set .takeup { s.tension.axes.takeup with
                word := max (-stored) (min stored s.tension.axes.takeup.word) } })
          ∧ (n = Param.capstanLimit → t.tension = s.tension ∧ t.speed = { s.speed with
              loop := { s.speed.loop with word := max (-stored) (min stored s.speed.loop.word) } })
          ∧ (n ≠ Param.supplyLimit → n ≠ Param.takeupLimit → n ≠ Param.capstanLimit →
            n < Param.panelLevel ∨ Param.lockoutLevel < n ∨ s.arb.chase ≠ .waiting →
            t.tension = s.tension ∧ t.speed = s.speed)

/-- SET_PROFILE makes its four checks in order and stores the profile clamped (R6). -/
def Obligations.SetProfileChecksAndClamps : Prop :=
  ∀ (n : Nat) (ch cf nmax : Int) (js : List Int) (s : State),
    (3 < n → s.setProfile n ch cf nmax js = { state := s, status := .badOperand, results := [] })
    ∧ (n ≤ 3 → (s.geom.bound.supply = some n ∨ s.geom.bound.takeup = some n) →
        s.setProfile n ch cf nmax js = { state := s, status := .inUse, results := [] })
    ∧ (n ≤ 3 → s.geom.bound.supply ≠ some n → s.geom.bound.takeup ≠ some n →
        (ch < 1000 ∨ 4000 < ch ∨ cf < ch + 500 ∨ 8190 < cf →
          s.setProfile n ch cf nmax js = { state := s, status := .badProfile, results := [] })
        ∧ (1000 ≤ ch → ch ≤ 4000 → ch + 500 ≤ cf → cf ≤ 8190 →
          s.setProfile n ch cf nmax js
            = { state := { s with geom := { s.geom with profiles := s.geom.profiles.set n (some
                  { ch := ch, cf := cf, nmax := max 2048 (min 40960 nmax),
                    inertia := js.map (fun j => max 0 (min 65535 j)) }) } }
                status := if 2048 ≤ nmax ∧ nmax ≤ 40960 ∧ ∀ j ∈ js, 0 ≤ j ∧ j ≤ 65535 then .ok else .clamped
                results := [] }))

/-- PLACE_MARK and CAPTURE_MARK make a record at the given or the head address, resolved by the spans that hold it (R139, R140, R125, R133, R134, R131, R111, R109).
That this record is sent without the candidates that READ_MARK adds is the model's choice of layout (log entry 18), and
that the resolved length is not held to the range of the head length is its reading of R131 (log entry 37). -/
def Obligations.PlaceAndCaptureMakeResolvedRecord : Prop :=
  (∀ (port : Port) (n : Nat) (a trim : Int) (s : State), n ≤ 127 → 0 ≤ a → a ≤ 16777215 → markAt s.marks n = none →
    ∃ (t : State) (m : Mark),
      s.placeMark port n a trim
        = { state := t, status := if -4096 ≤ trim ∧ trim ≤ 4095 then .ok else .clamped, results := m.encode }
      ∧ m = { number := n, address := a, trim := max (-4096) (min 4095 trim), owner := port, lock := false,
              resolution := resolve s.map.spans a }
      ∧ markAt t.marks n = some m ∧ (∀ k, k ≠ n → markAt t.marks k = markAt s.marks k)
      ∧ t = { s with marks := t.marks })
    ∧ (∀ (port : Port) (n : Nat) (h a : Int) (p : Span) (s : State), n ≤ 127 → markAt s.marks n = none →
      s.geom.head = some h → s.map.spans.find? (fun p => decide (p.startLen ≤ h) && decide (h ≤ p.lastLen)) = some p →
      a = p.startAddr + roundDiv ((h - p.startLen) * 1024) p.pitch →
      ∃ (t : State) (m : Mark),
        s.captureMark port n = { state := t, status := .ok, results := m.encode }
        ∧ m = { number := n, address := a, trim := 0, owner := port, lock := false,
                resolution := resolve s.map.spans a }
        ∧ markAt t.marks n = some m ∧ (∀ k, k ≠ n → markAt t.marks k = markAt s.marks k)
        ∧ t = { s with marks := t.marks })
    ∧ (∀ (port : Port) (k : Nat) (a trim : Int) (s : State), k ≤ 127 → markAt s.marks k = none →
      (∀ j, j < k → markAt s.marks j ≠ none) →
      s.placeMark port 255 a trim = s.placeMark port k a trim ∧ s.captureMark port 255 = s.captureMark port k)
    ∧ ∀ (spans found : List Span) (a : Int),
      found = spans.filter (fun p => decide (p.startAddr ≤ a)
        && decide (a ≤ p.startAddr + roundDiv ((p.lastLen - p.startLen) * 1024) p.pitch)) →
      (found = [] → resolve spans a = .unresolved)
      ∧ (∀ p, found = [p] →
        resolve spans a = .resolved p.num (p.startLen + roundDiv ((a - p.startAddr) * p.pitch) 1024))
      ∧ (2 ≤ found.length → resolve spans a = .ambiguous (found.map (fun p => p.num)))

/-- MOVE_MARK, TRIM_MARK, LOCK_MARK and UNLOCK_MARK change their one field, and mark requests are refused in the order of R133 (R141, R142, R143, R135, R131, R132, R133, R139, R140, R144, R146).
That the record is sent without the candidates that READ_MARK adds is the model's choice of layout (log entry 18). -/
def Obligations.MarkChangesAndRefusals : Prop :=
  (∀ (port : Port) (n : Nat) (a trim : Int) (m : Mark) (s : State) (mark : Mark → List Byte),
    (∀ m, mark m = u8 m.number ++ s32 m.address ++ s16 m.trim ++ u8 m.owner.code ++ flagByte m.lock
      ++ u8 m.resolution.code ++ optional 1 u8 (m.resolution.place.map (fun p => p.1))
      ++ optional 4 s32 (m.resolution.place.map (fun p => p.2))) →
    n ≤ 127 → 0 ≤ a → a ≤ 16777215 → markAt s.marks n = some m →
    (port = .panel ∨ m.lock = false →
      (∃ (t : State) (k : Mark), s.moveMark port n a = { state := t, status := .ok, results := mark k }
        ∧ k = (if a = m.address then m else { m with address := a, resolution := resolve s.map.spans a })
        ∧ markAt t.marks n = some k
        ∧ (∀ j, j ≠ n → markAt t.marks j = markAt s.marks j) ∧ t = { s with marks := t.marks })
      ∧ (∃ (t : State) (k : Mark), s.trimMark port n trim
            = { state := t, status := if -4096 ≤ trim ∧ trim ≤ 4095 then .ok else .clamped, results := mark k }
        ∧ k = { m with trim := max (-4096) (min 4095 trim) } ∧ markAt t.marks n = some k
        ∧ (∀ j, j ≠ n → markAt t.marks j = markAt s.marks j) ∧ t = { s with marks := t.marks }))
    ∧ (m.owner = .panel → ∀ lock : Bool, ∃ (t : State) (k : Mark),
        s.setLock lock n = { state := t, status := .ok, results := mark k }
        ∧ k = { m with lock := lock } ∧ markAt t.marks n = some k
        ∧ (∀ j, j ≠ n → markAt t.marks j = markAt s.marks j) ∧ t = { s with marks := t.marks }))
    ∧ ∀ (port : Port) (n : Nat) (a trim : Int) (lock : Bool) (s : State),
      (127 < n →
        s.moveMark port n a = { state := s, status := .badOperand, results := [] }
        ∧ s.trimMark port n trim = { state := s, status := .badOperand, results := [] }
        ∧ s.setLock lock n = { state := s, status := .badOperand, results := [] }
        ∧ s.retireMark port n = { state := s, status := .badOperand, results := [] }
        ∧ s.readMark n = { state := s, status := .badOperand, results := [] }
        ∧ (n ≠ 255 → s.placeMark port n a trim = { state := s, status := .badOperand, results := [] }
          ∧ s.captureMark port n = { state := s, status := .badOperand, results := [] }))
      ∧ (a < 0 ∨ 16777215 < a →
        s.moveMark port n a = { state := s, status := .badOperand, results := [] }
        ∧ s.placeMark port n a trim = { state := s, status := .badOperand, results := [] })
      ∧ (n ≤ 127 → markAt s.marks n = none →
        (0 ≤ a → a ≤ 16777215 → s.moveMark port n a = { state := s, status := .noSuchMark, results := [] })
        ∧ s.trimMark port n trim = { state := s, status := .noSuchMark, results := [] }
        ∧ s.setLock lock n = { state := s, status := .noSuchMark, results := [] }
        ∧ s.retireMark port n = { state := s, status := .noSuchMark, results := [] }
        ∧ s.readMark n = { state := s, status := .noSuchMark, results := [] }
        ∧ (headAddress s.map.spans s.geom.head = none →
          s.captureMark port n = { state := s, status := .noAddress, results := [] }))
      ∧ (∀ m, n ≤ 127 → markAt s.marks n = some m →
        (0 ≤ a → a ≤ 16777215 → s.placeMark port n a trim = { state := s, status := .markExists, results := [] })
        ∧ s.captureMark port n = { state := s, status := .markExists, results := [] }
        ∧ (m.owner = .studio → s.setLock lock n = { state := s, status := .notPermitted, results := [] })
        ∧ (m.owner = .panel → m.lock = true →
          (0 ≤ a → a ≤ 16777215 → s.moveMark .studio n a = { state := s, status := .locked, results := [] })
          ∧ s.trimMark .studio n trim = { state := s, status := .locked, results := [] }
          ∧ s.retireMark .studio n = { state := s, status := .locked, results := [] }))
      ∧ ((∀ j, j < 128 → markAt s.marks j ≠ none) →
        (0 ≤ a → a ≤ 16777215 → s.placeMark port 255 a trim = { state := s, status := .tableFull, results := [] })
        ∧ s.captureMark port 255 = { state := s, status := .tableFull, results := [] })

/-- RETIRE_MARK removes its mark, RETIRE_MARKS its port's group, and a locate to a retired mark fails (R144, R145, R168, R170, R132).
The error kept in a result is the last one evaluated in the whole locate (log entry 23), and its head length reads 0
where none is defined (log entry 28). -/
def Obligations.RetirementRemovesMarksAndFailsLocate : Prop :=
  (∀ (port : Port) (n : Nat) (m : Mark) (s : State), n ≤ 127 → markAt s.marks n = some m →
    port = .panel ∨ m.lock = false →
    (s.retireMark port n).status = .ok
      ∧ markAt (s.retireMark port n).state.marks n = none
      ∧ (∀ k, k ≠ n → markAt (s.retireMark port n).state.marks k = markAt s.marks k)
      ∧ ((∀ r, s.locate.active = some r → r.target ≠ .mark n) →
        (s.retireMark port n).state = { s with marks := (s.retireMark port n).state.marks })
      ∧ ∀ r, s.locate.active = some r → r.target = .mark n →
        ∃ t, (s.retireMark port n).state = t ∧ t.locate.active = none
          ∧ t.locate.result = some
              { target := .mark n, outcome := .targetRetired, retries := r.retries,
                head := s.geom.head.getD 0, error := r.lastError }
          ∧ (∀ p, (t.ports.port p).has .locateFailed = true)
          ∧ t.seq.transport = (if s.seq.transport.isChase then .chase .parked else .halting)
          ∧ t.seq.restDest = (if s.seq.transport.isChase then none else some .stopped)
          ∧ t.locate.located = s.locate.located)
    ∧ ∀ (port : Port) (scope : Nat) (s : State),
      (1 < scope → s.retireMarks port scope = { state := s, status := .badOperand, results := [] })
      ∧ (scope ≤ 1 → ∀ gone : Mark → Bool,
        (∀ m, gone m = true ↔ m.owner = port ∨ (scope = 1 ∧ (port = .panel ∨ m.lock = false))) →
        ∃ t, s.retireMarks port scope
            = { state := t, status := .ok, results := u8 (s.marks.filter gone).length }
          ∧ t.marks = s.marks.filter (fun m => !gone m)
          ∧ ((∀ r, s.locate.active = some r → ∀ m ∈ s.marks, gone m = true → r.target ≠ .mark m.number) →
            t = { s with marks := t.marks })
          ∧ ∀ r, ∀ m ∈ s.marks, s.locate.active = some r → gone m = true → r.target = .mark m.number →
            t.locate.active = none
              ∧ t.locate.result = some
                  { target := r.target, outcome := .targetRetired, retries := r.retries,
                    head := s.geom.head.getD 0, error := r.lastError }
              ∧ (∀ p, (t.ports.port p).has .locateFailed = true)
              ∧ t.seq.transport = (if s.seq.transport.isChase then .chase .parked else .halting)
              ∧ t.seq.restDest = (if s.seq.transport.isChase then none else some .stopped))

/-- A locked PANEL mark is changed or retired only through the panel port or by reset (R132, R145, R194). -/
def Obligations.LockedPanelMarkKeptFromStudio : Prop :=
  ∀ (c : Instr) (s t : State) (m : Mark), (∀ mosi w, c ≠ .panelDeassertion mosi w) → (∀ l, c ≠ .deviceReset l) →
    exec c s = .next t → MarksWellFormed s.marks → m ∈ s.marks → m.owner = .panel → m.lock = true →
    ∃ k ∈ t.marks, k.number = m.number ∧ k.address = m.address ∧ k.trim = m.trim ∧ k.owner = .panel ∧ k.lock = true

/-- Every step keeps the mark table: distinct numbers below 128, trims in range, no STUDIO mark locked (R130, R131, R133). -/
def Obligations.MarksStayWellFormed : Prop :=
  ∀ s t : State, step s = .next t → MarksWellFormed s.marks → MarksWellFormed t.marks

/-- Every step keeps every mark as R134 resolves it against the map (R134, R135, R136). -/
def Obligations.MarksStayResolved : Prop :=
  ∀ s t : State, step s = .next t → SpansWellFormed s.map.spans → MarksResolved s → MarksResolved t

/-- Every step keeps the span list sorted, disjoint in length, distinct in number, each pitch in its range and one OPEN span at most (R109, R110, R113, R117, R118, R119, R120). -/
def Obligations.SpansStayWellFormed : Prop :=
  ∀ s t : State, step s = .next t → SpansWellFormed s.map.spans → SpansWellFormed t.map.spans

/-- An accepted report is stamped, learned, announced, offered for confirmation and handed to the locate unit (R107, R108, R124, R135, R136, R138, R161, R162, R165, R168).
The error kept in a result is the last one evaluated in the whole locate (log entry 23). What it says of a command is
said of states in which no caught start waits for its EXT_STOP, which every other command takes first (log entry 14). -/
def Obligations.AcceptedReportIsLearned : Prop :=
  ∀ (high mid low check : Byte) (h : Int) (s : State), 0x96#8 + high + mid + low + check = 0 →
    s.geom.head = some h → s.seq.transport.reading = true →
    mag s.speed.vMeas ≤ paramOf s.ports.params Param.reportSpeed → Due.extStopCatch ∉ s.due →
    ∃ (t u : State) (r : Stamp) (e : Learned) (n : Newest),
      exec (.addressLinkFrame high mid low check) s = .next t
      ∧ r = { address := (high.toNat * 65536 + mid.toNat * 256 + low.toNat : Nat)
              length := clampLength
                (h - roundDiv (s.speed.vMeas * paramOf s.ports.params Param.reportLatency) 1000000) }
      ∧ e = s.map.learn (heldBy s.marks) h r
      ∧ u.map = e.map
      ∧ u.marks = (if e.changes = [] then s.marks else s.marks.map (Mark.announced e.map.spans e.changes)).map
          (Mark.confirmedBy (paramOf s.ports.params Param.locateWindow) r)
      ∧ u.marks.length = s.marks.length
      ∧ (∀ (i : Nat) (m : Mark), s.marks[i]? = some m → ∃ (mid : Resolution) (k : Mark), u.marks[i]? = some k
        ∧ k = { m with resolution := k.resolution }
        ∧ (e.changes = [] → mid = m.resolution)
        ∧ (e.changes ≠ [] →
          (∀ a b x y, m.resolution = .confirmed a x → resolve e.map.spans m.address = .resolved b y →
            (successor e.changes a = some b → mag (y - x) ≤ 40 → mid = .confirmed b y)
            ∧ (successor e.changes a ≠ some b ∨ 40 < mag (y - x) → mid = .resolved b y))
          ∧ ((∀ a x, m.resolution ≠ .confirmed a x) ∨ (∀ b y, resolve e.map.spans m.address ≠ .resolved b y) →
            mid = resolve e.map.spans m.address))
        ∧ (∀ a x, mid = .resolved a x → mag (r.address - m.address) ≤ 1 →
          mag (r.length - x) ≤ paramOf s.ports.params Param.locateWindow * 40 → k.resolution = .confirmed a x)
        ∧ (∀ a x, mid = .resolved a x → 1 < mag (r.address - m.address)
            ∨ paramOf s.ports.params Param.locateWindow * 40 < mag (r.length - x) → k.resolution = .resolved a x)
        ∧ ((∀ a x, mid ≠ .resolved a x) → k.resolution = mid))
      ∧ u = { s with map := u.map, marks := u.marks, ports := u.ports }
      ∧ u.ports = { s.ports with
            panel := { s.ports.panel with flags := u.ports.panel.flags }
            studio := { s.ports.studio with flags := u.ports.studio.flags }
            linkRx := .hunt false }
      ∧ (∀ (p : Port) (f : Flag), (u.ports.port p).has f
          = ((s.ports.port p).has f
            || (decide (f = .markChanged) && decide (e.changes ≠ []) && s.marks.any (Mark.falls e.map.spans e.changes))
            || (decide (f = .mapFull) && e.mapFull)))
      ∧ n = { address := r.address, length := r.length
              pitch := ((u.map.spans.find? (fun p => p.hasLength r.length)).map (fun p => p.pitch)).getD 40960 }
      ∧ ((s.locate.active = none ∨ s.seq.transport.locatePhase = none) → t = u)
      ∧ ∀ a, s.locate.active = some a → ∀ q, q = u.recompute { a with newest := some n } →
        (s.seq.transport.locatePhase = some .verify → t = { u with locate := { u.locate with active := some q } })
        ∧ (s.seq.transport.locatePhase = some .approach →
          (h - 2 ≤ q.stopPoint →
            t = { u with
              locate := { u.locate with active := some q }
              speed := { u.speed with stopPoint := some q.stopPoint, pointReported := false } })
          ∧ (q.stopPoint < h - 2 → a.retries = a.limit →
            t.locate.active = none ∧ t.locate.located = s.locate.located
              ∧ t.locate.result
                  = some { target := a.target, outcome := .missed, retries := a.retries, head := h, error := a.lastError }
              ∧ (∀ p, (t.ports.port p).has .locateFailed = true)
              ∧ t.seq.transport = (if s.seq.transport.isChase then .chase .parked else .halting)
              ∧ t.seq.restDest = (if s.seq.transport.isChase then none else some .stopped)
              ∧ t.speed.vRef = s.speed.vRef ∧ t.marks = u.marks)
          ∧ (q.stopPoint < h - 2 → a.retries ≠ a.limit → a.target.verifying = true →
            t.locate.active = some { q with retries := a.retries + 1 } ∧ t.locate.result = s.locate.result
              ∧ t.seq.transport = (if s.seq.transport.isChase then .chase (.locating .reposition) else .locate .reposition)
              ∧ t.speed.stopPoint = some (q.stopPoint - paramOf s.ports.params Param.approachDistance)
              ∧ t.speed.vRef = s.speed.vRef ∧ t.arb = s.arb ∧ t.ports = u.ports ∧ t.marks = u.marks))

/-- A first report becomes the candidate, a consistent second makes a span, splitting an old one or evicting the farthest (R112, R115, R116, R109, R117, R119, R120, R122, R123, R124). -/
def Obligations.CandidatePairMakesSpanSplitsAndEvicts : Prop :=
  (∀ (m : MapUnit) (held : Nat → Bool) (head : Int) (r : Stamp), m.spans = [] → m.growing = none →
    (m.candidate = none →
      m.learn held head r = { map := { m with candidate := some r, gapCount := 0 }, changes := [], mapFull := false })
    ∧ ∀ c, m.candidate = some c →
      (r.address ≠ c.address →
        mag ((r.address - c.address) - roundDiv ((r.length - c.length) * 1024) 40960) ≤ 2 →
        r.length ≠ c.length →
        ∃ low high : Stamp, ((low = c ∧ high = r) ∨ (low = r ∧ high = c)) ∧ low.length < high.length
          ∧ m.learn held head r
            = { map := { m with
                  spans := [{ num := 0, startLen := low.length, lastLen := high.length, startAddr := low.address,
                              pitch := 40960, anchors := 2, isOpen := true, startKind := .edge, lastKind := .edge }]
                  candidate := none, gapCount := 0 }
                changes := [.created 0], mapFull := false })
      ∧ (r.address = c.address
          ∨ 2 < mag ((r.address - c.address) - roundDiv ((r.length - c.length) * 1024) 40960) →
        m.learn held head r = { map := { m with candidate := some r, gapCount := 0 }, changes := [], mapFull := false }))
    ∧ (∀ (m : MapUnit) (held : Nat → Bool) (head : Int) (q : Span) (c r low high : Stamp), m.spans = [q] →
      q.isOpen = false → m.candidate = some c →
      2 < mag (r.address - (q.startAddr + roundDiv ((r.length - q.startLen) * 1024) q.pitch)) →
      r.address ≠ c.address → mag ((r.address - c.address) - roundDiv ((r.length - c.length) * 1024) 40960) ≤ 2 →
      ((low = c ∧ high = r) ∨ (low = r ∧ high = c)) → low.length < high.length →
      2 < mag (low.address - (q.startAddr + roundDiv ((low.length - q.startLen) * 1024) q.pitch)) →
      q.startLen + 81 ≤ low.length → high.length + 81 ≤ q.lastLen →
      ∀ n k : Nat, n = (if q.num = 0 then 1 else 0) → k = (if q.num ≤ 1 then 2 else 1) →
      m.learn held head r
        = { map := { m with
              spans := [{ q with lastLen := low.length - 1, lastKind := .cut },
                { num := n, startLen := low.length, lastLen := high.length, startAddr := low.address, pitch := 40960,
                  anchors := 2, isOpen := true, startKind := .jump, lastKind := .jump },
                { q with
                  num := k
                  startLen := high.length + 1
                  startAddr := q.startAddr + roundDiv ((high.length + 1 - q.startLen) * 1024) q.pitch
                  startKind := .cut }]
              growing := none, candidate := none, gapCount := 0 }
            changes := [.created n, .cut q.num, .created k], mapFull := false })
    ∧ ∀ (m : MapUnit) (held : Nat → Bool) (head : Int) (c r : Stamp) (dist : Span → Int), m.spans.length = 96 →
      (∀ p, dist p = if head < p.startLen then p.startLen - head else if p.lastLen < head then head - p.lastLen else 0) →
      m.candidate = some c → r.address ≠ c.address →
      mag ((r.address - c.address) - roundDiv ((r.length - c.length) * 1024) 40960) ≤ 2 →
      (∀ p ∈ m.spans, p.isOpen = true ∨ (p.startLen - 80 ≤ r.length ∧ r.length ≤ p.lastLen + 80) →
        2 < mag (r.address - (p.startAddr + roundDiv ((r.length - p.startLen) * 1024) p.pitch))) →
      ((∀ p ∈ m.spans, p.isOpen = true ∨ held p.num = true) →
        m.learn held head r = { map := { m with candidate := none, gapCount := 0 }, changes := [], mapFull := true })
      ∧ ∀ q ∈ m.spans, q.isOpen = false → held q.num = false →
        (∀ p ∈ m.spans, p.isOpen = false → held p.num = false → p ≠ q → dist p < dist q) →
        ∃ n, (m.learn held head r).changes.take 2 = [.evicted q.num, .created n]
          ∧ (m.learn held head r).map.candidate = none ∧ (m.learn held head r).map.gapCount = 0

/-- A consistent report extends, reopens or merges its span and cuts back a neighbour; at a gap count of 320 the OPEN span closes (R111, R112, R113, R114, R117, R118, R119, R124, R121).
Otherwise it changes nothing (log entry 3). What it says of a command is said of states in which no caught start waits
for its EXT_STOP, which every other command takes first (log entry 14). Where the report stands at the second span's
own end length, R118 is silent on the growing edge, and that the merge forgets it is the model's choice (log entry 6). -/
def Obligations.ReportsExtendReopenMergeAndCutSpans : Prop :=
  ((∀ (m : MapUnit) (held : Nat → Bool) (head : Int) (p : Span) (r : Stamp), m.spans = [p] → p.isOpen = true →
    p.lastLen < r.length →
    mag (r.address - (p.startAddr + roundDiv ((r.length - p.startLen) * 1024) p.pitch)) ≤ 2 →
    p.startLen ≤ p.lastLen →
    ∃ q : Span,
      q = { p with
            lastLen := r.length
            pitch :=
              if 64 ≤ mag (r.address - p.startAddr)
              then max 39936 (min 41984
                (roundDiv (mag (r.length - p.startLen) * 1024) (mag (r.address - p.startAddr))))
              else p.pitch
            anchors := min (p.anchors + 1) 65535
            lastKind := .edge }
      ∧ m.learn held head r
        = { map := { m with spans := [q], growing := some .last, gapCount := 0 }
            changes := if q.pitch = p.pitch then [.extended p.num] else [.extended p.num, .refined p.num]
            mapFull := false })
    ∧ (∀ s : State, Due.extStopCatch ∉ s.due →
    (s.map.gapCount = 320 → (∃ p ∈ s.map.spans, p.isOpen = true) →
      exec .gapCountLimit s
        = .next { s with map := { s.map with
            spans := s.map.spans.map (fun p =>
              if p.isOpen then
                { p with
                  isOpen := false
                  startKind := if s.map.growing = some .start then .edge else p.startKind
                  lastKind := if s.map.growing = some .last then .edge else p.lastKind }
              else p)
            growing := none
            gapCount := 0 } })
    ∧ ((s.map.gapCount ≠ 320 ∨ ∀ p ∈ s.map.spans, p.isOpen = false) → exec .gapCountLimit s = .next s)))
    ∧ (∀ (m : MapUnit) (held : Nat → Bool) (head : Int) (p : Span) (r : Stamp) (g : Option SpanEdge), m.spans = [p] →
      p.startLen ≤ p.lastLen → mag (r.address - (p.startAddr + roundDiv ((r.length - p.startLen) * 1024) p.pitch)) ≤ 2 →
      (p.isOpen = true ∧ g = m.growing)
        ∨ (p.isOpen = false ∧ g = none ∧ p.startLen - 80 ≤ r.length ∧ r.length ≤ p.lastLen + 80) →
      (p.startLen ≤ r.length → r.length ≤ p.lastLen →
        m.learn held head r
          = { map := { m with
                spans := [{ p with isOpen := true, anchors := min (p.anchors + 1) 65535 }], growing := g, gapCount := 0 }
              changes := [], mapFull := false })
      ∧ (r.length < p.startLen ∨ p.lastLen < r.length → ∀ (far : Stamp) (pitch : Int),
        far.length = (if r.length < p.startLen then p.lastLen else p.startLen) →
        far.address = (if r.length < p.startLen
          then p.startAddr + roundDiv ((p.lastLen - p.startLen) * 1024) p.pitch else p.startAddr) →
        pitch = (if 64 ≤ mag (r.address - far.address)
          then max 39936 (min 41984 (roundDiv (mag (r.length - far.length) * 1024) (mag (r.address - far.address))))
          else p.pitch) →
        ∃ q : Span,
          q = (if r.length < p.startLen
            then { p with
              startLen := r.length, startAddr := far.address - roundDiv ((far.length - r.length) * 1024) pitch
              pitch := pitch, anchors := min (p.anchors + 1) 65535, isOpen := true, startKind := .edge }
            else { p with
              lastLen := r.length, pitch := pitch, anchors := min (p.anchors + 1) 65535, isOpen := true
              lastKind := .edge })
          ∧ m.learn held head r
            = { map := { m with
                  spans := [q], growing := some (if r.length < p.startLen then .start else .last), gapCount := 0 }
                changes := if pitch = p.pitch then [.extended p.num] else [.extended p.num, .refined p.num]
                mapFull := false }))
    ∧ ∀ (m : MapUnit) (held : Nat → Bool) (head : Int) (p q u : Span) (r : Stamp) (grown : List Change), m.spans = [p, q] →
      p.isOpen = true → q.isOpen = false → p.startLen ≤ p.lastLen → p.lastLen < q.startLen → q.startLen ≤ q.lastLen →
      q.startLen ≤ r.length → 0 < q.pitch →
      mag (r.address - (p.startAddr + roundDiv ((r.length - p.startLen) * 1024) p.pitch)) ≤ 2 →
      u = { p with
          lastLen := r.length
          pitch :=
            if 64 ≤ mag (r.address - p.startAddr)
            then max 39936 (min 41984 (roundDiv (mag (r.length - p.startLen) * 1024) (mag (r.address - p.startAddr))))
            else p.pitch
          anchors := min (p.anchors + 1) 65535
          lastKind := .edge } →
      grown = (if u.pitch = p.pitch then [.extended p.num] else [.extended p.num, .refined p.num]) →
      (mag (u.startAddr + roundDiv ((q.startLen - u.startLen) * 1024) u.pitch - q.startAddr) ≤ 2 →
        ∀ (far w : Span) (e : Int), far = (if q.lastLen < u.lastLen then u else q) →
          e = far.startAddr + roundDiv ((far.lastLen - far.startLen) * 1024) far.pitch →
          w = { num := p.num, startLen := p.startLen, lastLen := far.lastLen, startAddr := p.startAddr
                pitch :=
                  if 64 ≤ e - p.startAddr
                  then max 39936 (min 41984 (roundDiv ((far.lastLen - p.startLen) * 1024) (e - p.startAddr)))
                  else 40960
                anchors := min (u.anchors + q.anchors) 65535, isOpen := true, startKind := p.startKind
                lastKind := far.lastKind } →
          m.learn held head r
            = { map := { m with
                  spans := [w], growing := if q.lastLen < u.lastLen then some .last else none, gapCount := 0 }
                changes := grown ++ (.merged p.num q.num
                  :: ((if w.lastLen = u.lastLen then [] else [.extended p.num])
                    ++ (if w.pitch = u.pitch then [] else [.refined p.num])))
                mapFull := false })
      ∧ (2 < mag (u.startAddr + roundDiv ((q.startLen - u.startLen) * 1024) u.pitch - q.startAddr) →
        (u.lastLen + 81 ≤ q.lastLen →
          m.learn held head r
            = { map := { m with
                  spans := [u, { q with
                    startLen := u.lastLen + 1
                    startAddr := q.startAddr + roundDiv ((u.lastLen + 1 - q.startLen) * 1024) q.pitch
                    startKind := .cut }]
                  growing := some .last, gapCount := 0 }
                changes := grown ++ [.cut q.num], mapFull := false })
        ∧ (q.lastLen < u.lastLen + 81 →
          m.learn held head r
            = { map := { m with spans := [u], growing := some .last, gapCount := 0 }
                changes := grown ++ [.removed (some q.num)], mapFull := false }))

/-- FORGET_MAP is refused BUSY during a locate or chase and otherwise empties the map (R127, R126, R135, R137). -/
def Obligations.ForgetMapUnlessLocateOrChase : Prop :=
  ∀ s : State,
    ((∃ m, s.arb.active = some m ∧ (m.kind = .locate ∨ m.kind = .chase))
        ∨ s.arb.chase = .starting ∨ s.arb.chase = .granted ∨ s.arb.chase = .releasing →
      s.forgetMap = { state := s, status := .busy, results := [] })
    ∧ ((∀ m, s.arb.active = some m → m.kind ≠ .locate ∧ m.kind ≠ .chase) →
        s.arb.chase = .idle ∨ s.arb.chase = .waiting ∨ s.arb.chase = .spent →
      ∃ t, s.forgetMap = { state := t, status := .ok, results := [] }
        ∧ t.map = { s.map with spans := [], growing := none, candidate := none, gapCount := 0 }
        ∧ (s.map.spans ≠ [] → ∀ m ∈ t.marks, m.resolution = .unresolved)
        ∧ t.marks.map (fun m => (m.number, m.address, m.trim, m.owner, m.lock))
            = s.marks.map (fun m => (m.number, m.address, m.trim, m.owner, m.lock))
        ∧ t = { s with map := t.map, marks := t.marks, ports := t.ports }
        ∧ t.ports = { s.ports with
            panel := { s.ports.panel with flags := t.ports.panel.flags }
            studio := { s.ports.studio with flags := t.ports.studio.flags } }
        ∧ ∀ (p : Port) (f : Flag), (t.ports.port p).has f
            = ((s.ports.port p).has f
              || (decide (f = .markChanged) && decide (s.map.spans ≠ [])
                && s.marks.any (fun m => m.resolution.place.isSome))))

/-- A roller count moves the head length by one, and past a limit is discarded with RANGE (R2).
What it says of a command is said of states in which no caught start waits for its EXT_STOP, which every other command
takes first (log entry 14). -/
def Obligations.RollerCountKeepsHeadRange : Prop :=
  ∀ (d : Sense) (h : Int) (s : State), s.geom.head = some h → Due.extStopCatch ∉ s.due →
    ∃ t, exec (.rollerCount d) s = .next t
      ∧ (-8388608 ≤ h + d.sign → h + d.sign ≤ 8388607 →
        t.geom.head = some (h + d.sign)
          ∧ t = { s with geom := t.geom, speed := t.speed, map := t.map })
      ∧ (h + d.sign < -8388608 ∨ 8388607 < h + d.sign → s.seq.transport.isMeasuring = false →
        t.geom.head = some h
          ∧ (s.seq.transport ≠ .unthreaded →
            t.prot.unread = true
              ∧ ((s.prot.report = none ∨ s.prot.unread = false) →
                ∃ r, t.prot.report = some r ∧ r.cause = .range ∧ r.axis = .none ∧ r.transport = s.seq.transport)
              ∧ ∀ r, s.prot.report = some r → s.prot.unread = true →
                ∃ q, t.prot.report = some q ∧ q.cause = r.cause ∧ Cause.range ∈ q.later))

/-- Roller, reel and capstan counts enter the coordinate, the open windows, the histories and the gap count alone (R1, R3, R9, R43, R44, R121).
What it says of a command is said of states in which no caught start waits for its EXT_STOP, which every other command
takes first (log entry 14). -/
def Obligations.CountsEnterWindowsAndHistories : Prop :=
  (∀ (d : Sense) (s : State),
    (∀ h, s.geom.head = some h → -8388608 ≤ h + d.sign ∧ h + d.sign ≤ 8388607) →
    Due.extStopCatch ∉ s.due →
    exec (.rollerCount d) s
      = .next { s with
          geom := { s.geom with
            head := s.geom.head.map (fun h => h + d.sign)
            est :=
              if s.seq.transport.estimating
              then ⟨{ s.geom.est.supply with dl := s.geom.est.supply.dl + d.sign },
                    { s.geom.est.takeup with dl := s.geom.est.takeup.dl + d.sign }⟩
              else s.geom.est }
          speed := { s.speed with roller := { s.speed.roller with running := s.speed.roller.running + d.sign } }
          map := { s.map with
            gapCount :=
              if s.seq.transport.reading = true ∧ mag s.speed.vMeas ≤ paramOf s.ports.params Param.reportSpeed
                  ∧ (∃ p ∈ s.map.spans, p.isOpen = true)
              then min (s.map.gapCount + 1) 320 else s.map.gapCount } })
    ∧ (∀ (d : Sense) (s : State), Due.extStopCatch ∉ s.due →
          exec (.capstanCount d) s
            = .next { s with speed := { s.speed with capstan :=
                { s.speed.capstan with running := s.speed.capstan.running + d.sign } } })
        ∧ ∀ (r : Reel) (u : Turn) (s : State), Due.extStopCatch ∉ s.due →
          (s.seq.transport.estimating = false →
            exec (.reelCount r u) s
              = .next { s with speed := { s.speed with
                  reels := s.speed.reels.set r
                    { s.speed.reels.get r with running := (s.speed.reels.get r).running + u.sign } } })
          ∧ (s.seq.transport.estimating = true → mag ((s.geom.est.get r).dn + u.sign) ≠ 256 →
            exec (.reelCount r u) s
              = .next { s with
                  speed := { s.speed with
                    reels := s.speed.reels.set r
                      { s.speed.reels.get r with running := (s.speed.reels.get r).running + u.sign } }
                  geom := { s.geom with
                    est := s.geom.est.set r
                      { s.geom.est.get r with dn := (s.geom.est.get r).dn + u.sign } } })

/-- The window that 256 reel counts close is discarded, rejected, filtered into C, or measures an INITIAL reel (R9, R10, R11, R12, R14, R67, R51).
That a raised condition waits in the model's own list of due events is the model's reading (log entry 3). What it says
of a command is said of states in which no caught start waits for its EXT_STOP, which every other command takes first
(log entry 14). -/
def Obligations.ClosedWindowMeasuresFiltersOrRejects : Prop :=
  ∀ (r o : Reel) (u : Turn) (p : Profile) (e : Estimator) (valid plausible : Prop) (s w : State),
    o ≠ r → s.seq.transport.estimating = true → s.geom.profile r = some p → e = s.geom.est.get r →
    mag (e.dn + u.sign) = 256 → Due.extStopCatch ∉ s.due →
    (valid ↔ 64 ≤ mag e.dl ∧ e.dl.sign = r.tapeSign * (e.dn + u.sign).sign) →
    (plausible ↔ truncDiv (p.ch * 7) 8 ≤ 4 * mag e.dl ∧ 4 * mag e.dl ≤ 8190) →
    w = { s with speed := { s.speed with
      reels := s.speed.reels.set r
        { s.speed.reels.get r with running := (s.speed.reels.get r).running + u.sign } } } →
    (¬valid → exec (.reelCount r u) s
      = .next { w with geom := { s.geom with est := s.geom.est.set r { e with dn := 0, dl := 0 } } })
    ∧ (valid → ¬plausible → e.reject + 1 ≠ 3 → exec (.reelCount r u) s
      = .next { w with geom := { s.geom with est := s.geom.est.set r { e with dn := 0, dl := 0, reject := e.reject + 1 } } })
    ∧ (valid → ¬plausible → e.reject + 1 = 3 → exec (.reelCount r u) s
      = .next { w with
          geom := { s.geom with est := s.geom.est.set r { e with dn := 0, dl := 0, reject := 0 } }
          due := s.due ++ [.reject r] })
    ∧ (valid → plausible → e.mode = .tracking → ∀ c d step : Int, e.c = some c → d = 4 * mag e.dl - c →
      step = (if roundDiv d 8 = 0 then (if 0 < d then 1 else if d < 0 then -1 else 0) else roundDiv d 8) →
      exec (.reelCount r u) s
        = .next { w with geom := { s.geom with
            est := s.geom.est.set r
              { c := some (clampTo p.ch 8190 (c + step)), mode := .tracking, dn := 0, dl := 0, reject := 0 } } })
    ∧ (valid → plausible → e.mode = .initial → ∀ g : Geometry,
      g = { s.geom with
          est := s.geom.est.set r
            { c := some (clampTo p.ch 8190 (4 * mag e.dl)), mode := .tracking, dn := 0, dl := 0, reject := 0 } } →
      (s.seq.transport.isMeasuring = false ∨ (s.geom.est.get o).mode = .initial →
        exec (.reelCount r u) s = .next { w with geom := g })
      ∧ ((s.geom.est.get o).mode = .tracking → s.seq.transport = .measuring .creepStop →
        exec (.reelCount r u) s = .next { w with geom := { g with measuringTimer := false } })
      ∧ ((s.geom.est.get o).mode = .tracking → s.seq.transport = .measuring .creep →
        ∃ t, exec (.reelCount r u) s = .next t ∧ t.geom = { g with measuringTimer := false }
          ∧ t.seq.transport = .measuring .creepStop ∧ t.seq.restDest = some .settling
          ∧ t.speed.kind = some (if s.speed.vRef = 0 then .atRest
              else if s.speed.mode = .capstan ∨ (s.speed.mode = .deceleration ∧ s.speed.kind = some .capstan)
              then .capstan else .reel)
          ∧ t.speed.reels = w.speed.reels ∧ t.speed.vRef = s.speed.vRef ∧ t.arb = s.arb ∧ t.marks = s.marks
          ∧ t.prot = s.prot ∧ t.ports = s.ports ∧ t.due = s.due))

/-- The inertia of a reel is interpolated in the one segment that holds C, and absent without C (R17). -/
def Obligations.InertiaInterpolatesBetweenPoints : Prop :=
  (∀ (p : Profile) (c : Int), p.ch + 500 ≤ p.cf →
      (c < p.pointPos 0 → p.inertiaAt c = p.pointInertia 0)
        ∧ (p.pointPos 7 ≤ c → p.inertiaAt c = p.pointInertia 7)
        ∧ ∀ k, k < 7 → p.pointPos k ≤ c → c < p.pointPos (k + 1) →
          p.inertiaAt c = p.pointInertia k
            + truncDiv ((p.pointInertia (k + 1) - p.pointInertia k) * (c - p.pointPos k))
                (p.pointPos (k + 1) - p.pointPos k))
    ∧ ∀ (g : Geometry) (r : Reel),
      ((g.est.get r).c = none → g.inertia r = none)
        ∧ ∀ p c, g.profile r = some p → (g.est.get r).c = some c → g.inertia r = some (p.inertiaAt c)

/-- Every step keeps the head length in its range, the return list at 16 entries at most, and the report's form (R1, R2, R103, R183, R185). -/
def Obligations.BoundsAndReportStay : Prop :=
  ∀ s t : State, step s = .next t →
    (HeadInRange s.geom → HeadInRange t.geom) ∧ (ReturnsBounded s → ReturnsBounded t)
      ∧ (ReportWellFormed s.prot → ReportWellFormed t.prot)

/-- A servo period computes the drive word of its axis by the row of R23, or takes the arm reading alone (R21, R22, R23, R24, R25, R26, R27, R28, R29, R30, R31, R34, R36, R37, R38).
That the word of the period that establishes tension is computed under THREADING's row, before the arms are tested, is the
model's reading of R26 and R38, which do not order the two (log entry 12). That a limit reached waits in the model's own list of due events, and that nothing is taken in the same step, is the
model's reading (log entry 3); that low, high and saturation are raised in this order is its choice (log entry 34).
What it says of a command is said of states in which no caught start waits for its EXT_STOP, which every other command
takes first (log entry 14). -/
def Obligations.AxisPeriodComputesDriveWord : Prop :=
  (∀ (r : Reel) (arm : Fin 4096) (s : State), s.seq.transport.isForced = true
      ∨ (s.seq.transport = .unthreading ∧ (s.tension.axes.get r).released = true) →
    Due.extStopCatch ∉ s.due →
    exec (.axisServoPeriod r arm) s
      = .next { s with tension := { s.tension with
          axes := s.tension.axes.set r { s.tension.axes.get r with arm := arm.val } } })
    ∧ ∀ (r : Reel) (arm : Fin 4096) (p : Profile) (c : Int) (s : State), s.seq.transport.isForced = false →
    Due.extStopCatch ∉ s.due → s.geom.profile r = some p →
    (s.geom.est.get r).c = some c → (s.tension.axes.get r).released = false →
    ∀ (a b : Axis) (ps : List Int) (wind play reelRow : Bool) (target tension e addition integ ff pr q sp raw limit : Int)
      (dir : Clamp) (full : List Due),
      a = s.tension.axes.get r → ps = s.ports.params →
      (wind = true ↔ s.seq.transport ∈ [Transport.measuring .creep, .measuring .creepStop, .play .braking, .wind, .shuttle,
          .locate .travel, .locate .reposition, .chase (.locating .travel), .chase (.locating .reposition)]
        ∨ (s.seq.transport ∈ [Transport.halting, .protectStop, .chase .releasing] ∧ s.speed.kind = some .reel)) →
      (play = true ↔ s.seq.transport ∈ [Transport.play .engage, .play .running, .locate .approach, .locate .verify,
          .chase .rolling, .chase (.locating .approach), .chase (.locating .verify)]
        ∨ (s.seq.transport ∈ [Transport.halting, .protectStop, .chase .releasing] ∧ s.speed.kind = some .capstan)) →
      (reelRow = true ↔ wind = true
        ∧ (s.seq.transport = .measuring .creepStop ∨ s.seq.transport = .play .braking → s.speed.kind = some .reel)) →
      target = (if s.seq.transport = .unthreading then 0 else if wind = true then paramOf ps Param.windTension
        else if play = true then paramOf ps Param.playTension else paramOf ps Param.stopTension) →
      tension = toward target (paramOf ps Param.tensionRamp) a.tension →
      e = (arm.val : Int) - armCentre ps r →
      addition = -e * paramOf ps Param.ki →
      integ = (if (a.clamp = .high ∧ 0 < addition) ∨ (a.clamp = .low ∧ addition < 0) then a.integ
        else clampTo (-33554432) 33554432 (a.integ + addition)) →
      ff = roundDiv (tension * c * paramOf ps (r.pick Param.supplyTorque Param.takeupTorque)) 65536 →
      pr = -roundDiv (e * paramOf ps Param.kp) 256 →
      q = roundDiv (s.speed.accel * p.inertiaAt c) (c * 256) →
      sp = (if reelRow = true then roundDiv ((s.speed.vRef - s.speed.vMeas) * paramOf ps Param.kv) 256 else 0) →
      raw = (match r with
        | .takeup => ff + pr + roundDiv integ 4096 + q + sp
        | .supply => ff + pr + roundDiv integ 4096 - q - sp) →
      limit = driveLimit ps r →
      dir = (if limit < raw then .high else if raw < -limit then .low else .none) →
      b = { a with
          arm := arm.val, tension := tension, integ := integ, word := clampTo (-limit) limit raw, clamp := dir
          satCount := if dir = .none then 0 else if a.satCount + 1 = 250 then 0 else a.satCount + 1 } →
      full = (if dir ≠ .none ∧ a.satCount + 1 = 250 then [.saturation r] else []) →
      (s.seq.transport = .unthreading → tension ≠ 0 →
        exec (.axisServoPeriod r arm) s
          = .next { s with tension := { s.tension with axes := s.tension.axes.set r b }, due := s.due ++ full })
      ∧ (s.seq.transport = .threading → ∃ t, exec (.axisServoPeriod r arm) s = .next t ∧ t.due = s.due ++ full
        ∧ ((∃ x, 200 < mag (((s.tension.axes.set r b).get x).arm - armCentre ps x)) →
          t = { s with
              tension := { s.tension with
                axes := s.tension.axes.set r b
                outAtLastTest := t.tension.outAtLastTest }
              due := t.due }
            ∧ t.tension.outAtLastTest
              = some (if 200 < mag (((s.tension.axes.set r b).get .supply).arm - armCentre ps .supply)
                  then .supply else .takeup))
        ∧ ((∀ x, mag (((s.tension.axes.set r b).get x).arm - armCentre ps x) ≤ 200) →
          ∀ x, t.tension.axes.get x = { (s.tension.axes.set r b).get x with lowCount := 0, highCount := 0 }))
      ∧ (s.seq.transport ≠ .threading → s.seq.transport ≠ .unthreading →
        exec (.axisServoPeriod r arm) s
          = .next { s with
              tension := { s.tension with
                axes := s.tension.axes.set r
                  { b with
                    lowCount := if (arm.val : Int) < paramOf ps Param.armLow
                      then (if a.lowCount + 1 = 20 then 0 else a.lowCount + 1) else 0
                    highCount := if paramOf ps Param.armHigh < (arm.val : Int)
                      then (if a.highCount + 1 = 5 then 0 else a.highCount + 1) else 0 } }
              due := s.due
                ++ (if (arm.val : Int) < paramOf ps Param.armLow ∧ a.lowCount + 1 = 20 then [.low r] else [])
                ++ (if paramOf ps Param.armHigh < (arm.val : Int) ∧ a.highCount + 1 = 5 then [.high r] else [])
                ++ full })

/-- In THREADING a period that finds both arms in their bands establishes tension (R38, R66, R79).
What it says of a command is said of states in which no caught start waits for its EXT_STOP, which every other command
takes first (log entry 14). -/
def Obligations.ThreadingEndsAtTensionEstablished : Prop :=
  ∀ (r o : Reel) (arm : Fin 4096) (s : State), s.seq.transport = .threading → o ≠ r →
    Due.extStopCatch ∉ s.due →
    mag ((arm.val : Int) - armCentre s.ports.params r) ≤ 200 →
    mag ((s.tension.axes.get o).arm - armCentre s.ports.params o) ≤ 200 →
    ∃ t, exec (.axisServoPeriod r arm) s = .next t ∧ t.tension.threadingTimer = false
      ∧ ((∃ m, s.arb.active = some m ∧ m.kind = .clearFault) →
        t.seq.transport = .settling ∧ t.geom.head = s.geom.head
          ∧ t.seq.settleTimer = some (paramOf s.ports.params Param.settleTime))
      ∧ ((∀ m, s.arb.active = some m → m.kind ≠ .clearFault) →
        t.geom.measuringTimer = true
          ∧ (s.seq.creepCancelled = true →
            t.seq.transport = .measuring .creepStop ∧ t.seq.restDest = some .settling)
          ∧ (s.seq.creepCancelled = false → t.seq.transport = .measuring .creep ∧ t.seq.restDest = none))
      ∧ t.marks = s.marks ∧ t.arb = s.arb ∧ t.prot.report = s.prot.report ∧ t.ports = s.ports

/-- In UNTHREADING an axis whose T reaches 0 is released, and the second release enters UNTHREADED (R25, R81, R60, R126, R105, R84).
The speed unit stands at the values of its reset table, the chase ratio kept; that the histories too are set to 0
there, and run on from it, is the model's reading of R60 (log entry 10). What it says of a command is said of states
in which no caught start waits for its EXT_STOP, which every other command takes first (log entry 14). -/
def Obligations.SecondReleaseEntersUnthreaded : Prop :=
  ∀ (r o : Reel) (arm : Fin 4096) (s : State), s.seq.transport = .unthreading → o ≠ r →
    (s.tension.axes.get r).released = false → Due.extStopCatch ∉ s.due →
    mag (s.tension.axes.get r).tension ≤ paramOf s.ports.params Param.tensionRamp →
    ∃ t, exec (.axisServoPeriod r arm) s = .next t
      ∧ ((s.tension.axes.get o).released = false →
        t = { s with tension := { s.tension with
          axes := s.tension.axes.set r
            { s.tension.axes.get r with
              arm := (arm.val : Int), tension := 0, word := 0, integ := 0, clamp := .none, satCount := 0,
              released := true } } })
      ∧ ((s.tension.axes.get o).released = true →
        t.seq.transport = .unthreaded ∧ t.seq.outputs
            = { driveEnable := false, brakesReleased := false, pinchDown := false, lifterOut := false, grant := false }
          ∧ t.geom.head = none ∧ t.geom.bound = ⟨none, none⟩ ∧ (∀ q, (t.geom.est.get q).c = none)
          ∧ (∀ q, (t.tension.axes.get q).word = 0 ∧ (t.tension.axes.get q).released = false)
          ∧ t.speed.roller = { running := 0, periods := List.replicate 16 0 }
          ∧ t.speed.capstan = { running := 0, periods := List.replicate 16 0 }
          ∧ (∀ q, t.speed.reels.get q = { running := 0, periods := List.replicate 16 0 }
            ∧ t.speed.reelRate.get q = 0 ∧ t.speed.overspeed.get q = 0)
          ∧ t.speed.vMeas = 0 ∧ t.speed.vCap = 0 ∧ t.speed.vRef = 0 ∧ t.speed.target = 0 ∧ t.speed.accel = 0
          ∧ t.speed.mode = .forced ∧ t.speed.kind = none ∧ t.speed.stopPoint = none
          ∧ t.speed.loop = { integ := 0, word := 0, clamp := .none, satCount := 0 }
          ∧ t.speed.chaseRatio = s.speed.chaseRatio
          ∧ t.map.spans = [] ∧ t.map.candidate = none ∧ t.arb.returns = [] ∧ t.arb.active = none
          ∧ t.marks.map (fun m => (m.number, m.address, m.trim, m.owner, m.lock))
              = s.marks.map (fun m => (m.number, m.address, m.trim, m.owner, m.lock))
          ∧ t.prot.report = s.prot.report ∧ t.ports.params = s.ports.params)

/-- A capstan period computes the capstan word while the loop is active and nothing otherwise (R53, R54, R55).
That a limit reached waits in the model's own list of due events, and that nothing is taken in the same step, is the
model's reading (log entry 3). What it says of a command is said of states in which no caught start waits for its
EXT_STOP, which every other command takes first (log entry 14). -/
def Obligations.CapstanPeriodComputesWhileActive : Prop :=
  ∀ s : State, Due.extStopCatch ∉ s.due →
    (s.seq.transport.capstanActive s.speed.kind = false → exec .capstanServoPeriod s = .next s)
    ∧ (s.seq.transport.capstanActive s.speed.kind = true →
      ∀ (e addition integ raw limit : Int) (dir : Clamp),
        e = s.speed.vRef - s.speed.vCap →
        addition = e * paramOf s.ports.params Param.capstanKi →
        integ = (if (s.speed.loop.clamp = .high ∧ 0 < addition) ∨ (s.speed.loop.clamp = .low ∧ addition < 0)
          then s.speed.loop.integ else clampTo (-33554432) 33554432 (s.speed.loop.integ + addition)) →
        raw = roundDiv (e * paramOf s.ports.params Param.capstanKp) 256 + roundDiv integ 4096 →
        limit = paramOf s.ports.params Param.capstanLimit →
        dir = (if limit < raw then .high else if raw < -limit then .low else .none) →
        exec .capstanServoPeriod s
          = .next { s with
              speed := { s.speed with loop :=
                { integ := integ, word := clampTo (-limit) limit raw, clamp := dir
                  satCount := if dir = .none then 0
                    else if s.speed.loop.satCount + 1 = 250 then 0 else s.speed.loop.satCount + 1 } }
              due := s.due ++ (if dir ≠ .none ∧ s.speed.loop.satCount + 1 = 250 then [.capstanSaturation] else []) })

/-- A generator period forms the measured speeds, steps v_ref toward the target, and counts overspeed and tape-out (R43, R44, R46, R51, R58, R176, R48, R52).
It is said of a period that reports neither a stopping point reached nor rest reached, by the tests of R48 and R52
spelt out; a head length not defined reads as 0 in the first (log entry 28). Raised limits wait as the model's own list of due events (log entry 3). That supply, takeup and tape-out are raised in
this order is the model's choice (log entry 34). What it says of a command is said of states in which no caught start
waits for its EXT_STOP, which every other command takes first (log entry 14). -/
def Obligations.GeneratorPeriodStepsReference : Prop :=
  ∀ (w : Switch) (s : State) (target step vRef vMeas : Int), Due.extStopCatch ∉ s.due →
    target = s.speed.nextTarget s.ports.params s.geom s.seq.transport →
    step = (if s.seq.transport = .protectStop then roundDiv (paramOf s.ports.params Param.protectDecel) 1000
      else roundDiv (paramOf s.ports.params Param.accelLimit) 1000) →
    vRef = (if mag (target - s.speed.vRef) ≤ step then target
      else if s.speed.vRef < target then s.speed.vRef + step else s.speed.vRef - step) →
    vMeas = truncDiv ((s.speed.roller.periods.drop 1 ++ [s.speed.roller.running]).sum * 125) 2 →
    (∀ point r, s.speed.stopPoint = some point → r = point - s.geom.head.getD 0 →
      s.speed.pointReported = true ∨ vRef ≠ 0 ∨ if s.speed.mode = .reel then 2 < mag r else 2 < r) →
    (s.speed.mode ≠ .deceleration ∨ s.speed.restReported = true ∨ vRef ≠ 0 ∨ 62 < mag vMeas) →
    ∃ t, exec (.profileGeneratorPeriod w) s = .next t
      ∧ t.speed.vRef = vRef ∧ t.speed.accel = (vRef - s.speed.vRef) * 1000 ∧ t.speed.target = target
      ∧ t.speed.requested = s.speed.requested ∧ t.speed.pointReported = s.speed.pointReported
      ∧ t.speed.restReported = s.speed.restReported ∧ t.speed.pointFresh = false
      ∧ t.speed.roller.periods = s.speed.roller.periods.drop 1 ++ [s.speed.roller.running]
      ∧ t.speed.roller.running = 0
      ∧ t.speed.vMeas = vMeas
      ∧ t.speed.capstan.periods = s.speed.capstan.periods.drop 1 ++ [s.speed.capstan.running]
      ∧ t.speed.capstan.running = 0
      ∧ t.speed.vCap = truncDiv (t.speed.capstan.periods.sum * 125) 2
      ∧ (∀ r, (t.speed.reels.get r).periods
            = (s.speed.reels.get r).periods.drop 1 ++ [(s.speed.reels.get r).running]
          ∧ (t.speed.reels.get r).running = 0
          ∧ t.speed.reelRate.get r = truncDiv ((t.speed.reels.get r).periods.sum * 125) 2)
      ∧ t.speed.mode = s.speed.mode ∧ t.speed.kind = s.speed.kind ∧ t.speed.stopPoint = s.speed.stopPoint
      ∧ t.speed.loop = s.speed.loop ∧ t.speed.chaseRatio = s.speed.chaseRatio
      ∧ t = { s with speed := t.speed, prot := t.prot, tapePath := w, due := t.due }
      ∧ (∀ r, t.speed.overspeed.get r = match s.geom.profile r with
          | none => s.speed.overspeed.get r
          | some p =>
            if truncDiv (p.nmax * 9) 8 < mag (t.speed.reelRate.get r)
            then (if s.speed.overspeed.get r + 1 = 5 then 0 else s.speed.overspeed.get r + 1) else 0)
      ∧ t.prot = { s.prot with
          tapeOut :=
            if s.seq.transport = .unthreaded ∨ s.seq.transport = .faulted then s.prot.tapeOut
            else if w = .opened then (if s.prot.tapeOut + 1 = 3 then 0 else s.prot.tapeOut + 1) else 0 }
      ∧ ∀ hit : Reel → Bool,
          (∀ r, hit r = (s.geom.profile r).any (fun p =>
            decide (truncDiv (p.nmax * 9) 8 < mag (t.speed.reelRate.get r)) && decide (s.speed.overspeed.get r + 1 = 5))) →
          t.due = s.due ++ (if hit .supply then [.overspeed .supply] else [])
            ++ (if hit .takeup then [.overspeed .takeup] else [])
            ++ (if s.seq.transport ≠ .unthreaded ∧ s.seq.transport ≠ .faulted ∧ w = .opened ∧ s.prot.tapeOut + 1 = 3
                then [.tapeOut] else [])

/-- The generator's target follows the mode: bounded reel speed, capstan target, or the stopping rule toward a point (R45, R47, R48, R49, R50, R18, R19, R20).
The leaving reel is read from the stored target, that of the period before (log entry 11), and the rest within 2
counts of the point in the first period of a phase is the model's reading of R160 and R164 (log entry 30). -/
def Obligations.GeneratorTargetByModeAndPoint : Prop :=
  ∀ (ps : List Int) (g : Geometry) (t : Transport) (v : Speed) (a b : Profile) (ca cb dir : Int) (bound : Int → Int),
    g.profile .supply = some a → g.profile .takeup = some b → (g.est.get .supply).c = some ca →
    (g.est.get .takeup).c = some cb → dir = (if v.target = 0 then v.vRef else v.target) →
    (∀ x, bound x =
      (let m := min (min (min (mag x) (paramOf ps Param.windSpeed)) (truncDiv (a.nmax * ca) 1024))
        (truncDiv (b.nmax * cb) 1024)
      if (0 < dir ∧ ca ≤ a.ch + paramOf ps Param.endMargin) ∨ (dir < 0 ∧ cb ≤ b.ch + paramOf ps Param.endMargin)
      then min m (paramOf ps Param.endSpeed) else m)) →
    (v.stopPoint = none →
      (t = .measuring .creep → v.nextTarget ps g t
        = (paramOf ps Param.creepSpeed).sign * bound (paramOf ps Param.creepSpeed))
      ∧ (t = .wind ∨ t = .shuttle → v.nextTarget ps g t = v.requested.sign * bound v.requested)
      ∧ (t = .play .running → v.nextTarget ps g t
        = roundDiv (paramOf ps Param.playSpeed * paramOf ps Param.varispeed) 4096)
      ∧ (t = .chase .rolling → v.nextTarget ps g t = roundDiv (paramOf ps Param.playSpeed * v.chaseRatio) 4096)
      ∧ (t ≠ .measuring .creep → t ≠ .wind → t ≠ .shuttle → t ≠ .play .running → t ≠ .chase .rolling →
        v.nextTarget ps g t = 0))
    ∧ ∀ (point h r : Int) (stops : Prop), v.stopPoint = some point → g.head = some h → r = point - h →
      (stops ↔ (v.vRef ≠ 0 ∧ v.vRef.sign = -r.sign)
        ∨ mag r ≤ truncDiv (v.vRef * v.vRef) (2 * paramOf ps Param.accelLimit) + truncDiv (mag v.vRef) 1000
        ∨ (v.pointFresh = true ∧ v.vRef = 0 ∧ if v.mode = .reel then mag r ≤ 2 else r ≤ 2)) →
      (stops → v.nextTarget ps g t = 0)
      ∧ (¬ stops →
        (v.mode = .reel → v.nextTarget ps g t
            = (r.sign * paramOf ps Param.windSpeed).sign * bound (r.sign * paramOf ps Param.windSpeed))
        ∧ (v.mode ≠ .reel → v.nextTarget ps g t
            = if r < 0 then 0 else roundDiv (paramOf ps Param.playSpeed * 4096) 4096))

/-- At rest each deceleration enters its destination (R52, R67, R71, R75, R77, R96, R101).
No deceleration has a stopping point: where a state held one, completed, the period would report that and not the rest
(log entry 12), with a head length not defined read as 0 (log entry 28). The report is made once: it stays marked as made
while the state stands, and the next deceleration starts with none made. What it says of a command is said of states in which no caught start waits for its EXT_STOP, which every other command
takes first (log entry 14). -/
def Obligations.RestReachedEntersDestination : Prop :=
  ∀ (w : Switch) (s : State) (target step vMeas : Int), Due.extStopCatch ∉ s.due →
    target = s.speed.nextTarget s.ports.params s.geom s.seq.transport →
    step = (if s.seq.transport = .protectStop then roundDiv (paramOf s.ports.params Param.protectDecel) 1000
      else roundDiv (paramOf s.ports.params Param.accelLimit) 1000) →
    (if mag (target - s.speed.vRef) ≤ step then target
      else if s.speed.vRef < target then s.speed.vRef + step else s.speed.vRef - step) = 0 →
    vMeas = truncDiv ((s.speed.roller.periods.drop 1 ++ [s.speed.roller.running]).sum * 125) 2 →
    s.speed.mode = .deceleration → s.speed.restReported = false → mag vMeas ≤ 62 →
    (∀ point, s.speed.stopPoint = some point → s.speed.pointReported = true ∨ 2 < point - s.geom.head.getD 0) →
    s.arb.chase ≠ .waiting → s.arb.slot = none →
    ∃ t, exec (.profileGeneratorPeriod w) s = .next t
      ∧ (t.seq.transport = s.seq.transport → t.speed.restReported = true)
      ∧ (t.seq.transport ≠ s.seq.transport → t.speed.restReported = false ∧ t.speed.stopPoint = none)
      ∧ (s.seq.transport = .play .braking →
        t.seq.transport = .play .engage ∧ t.seq.engageTimer = true ∧ t.arb = s.arb)
      ∧ (s.seq.transport = .measuring .creepStop → s.seq.restDest = some .settling →
        t.seq.transport = .settling ∧ t.geom.head = some 0
          ∧ t.seq.settleTimer = some (paramOf s.ports.params Param.settleTime) ∧ t.arb = s.arb)
      ∧ (s.seq.transport = .measuring .creepStop → s.seq.restDest = some .unthreading →
        t.seq.transport = .unthreading ∧ t.geom.head = s.geom.head ∧ t.arb = s.arb ∧ t.seq.restDest = none)
      ∧ (s.seq.transport = .halting → s.seq.restDest = some .stopped →
        t.seq.transport = .stopped ∧ t.arb.active = none ∧ t.seq.restDest = none)
      ∧ (s.seq.transport = .halting → s.seq.restDest = some .unthreading →
        t.seq.transport = .unthreading ∧ t.arb.active = s.arb.active ∧ t.seq.restDest = none)
      ∧ (∀ m, s.seq.transport = .halting → s.seq.restDest = some .chaseParked → s.arb.active = some m →
        t.seq.transport = .chase .parked ∧ t.seq.restDest = none ∧ t.seq.outputs.grant = true
          ∧ t.speed.chaseRatio = 4096
          ∧ t.arb = { s.arb with
              chase := .granted, active := some { kind := .chase, source := .chase, level := m.level } })
      ∧ (s.seq.transport = .protectStop →
        t.seq.transport = .stopped ∧ t.arb.active = none ∧ ∀ p, (t.ports.port p).has .protectedStop = true)
      ∧ (s.seq.transport = .chase .releasing →
        t.seq.transport = .stopped ∧ t.arb.active = none ∧ t.seq.outputs.grant = false
          ∧ (s.arb.chase = .releasing → t.arb.chase = .idle))
      ∧ t.geom.profiles = s.geom.profiles ∧ t.marks = s.marks ∧ t.ports.params = s.ports.params
      ∧ t.prot.report = s.prot.report ∧ t.arb.returns = s.arb.returns

/-- A stopping point reached moves the locate on (R48, R160, R161, R162, R165, R166, R167, R168, R92).
The report is made once for a stopping point: it stays marked as made while that point stands, and the point that the
locate's next phase gives has none made. The error kept in a result is the last one evaluated in the whole locate (log entry 23). What it says of a command is
said of states in which no caught start waits for its EXT_STOP, which every other command takes first (log entry 14). -/
def Obligations.StoppingPointReachedMovesLocateOn : Prop :=
  ∀ (w : Switch) (h point r target step : Int) (s : State), Due.extStopCatch ∉ s.due →
    target = s.speed.nextTarget s.ports.params s.geom s.seq.transport →
    step = (if s.seq.transport = .protectStop then roundDiv (paramOf s.ports.params Param.protectDecel) 1000
      else roundDiv (paramOf s.ports.params Param.accelLimit) 1000) →
    (if mag (target - s.speed.vRef) ≤ step then target
      else if s.speed.vRef < target then s.speed.vRef + step else s.speed.vRef - step) = 0 →
    s.speed.stopPoint = some point → s.speed.pointReported = false → s.geom.head = some h → r = point - h →
    (if s.speed.mode = .reel then mag r ≤ 2 else r ≤ 2) →
    (s.locate.active = none ∨ s.seq.transport.locatePhase = none ∨ s.seq.transport.locatePhase = some .verify →
      ∃ t, exec (.profileGeneratorPeriod w) s = .next t ∧ t.speed.pointReported = true
        ∧ t.speed.stopPoint = some point ∧ t = { s with speed := t.speed, prot := t.prot, tapePath := w, due := t.due })
    ∧ ∀ a q : LocateRecord, s.locate.active = some a →
      s.seq.transport.locatePhase ≠ none → s.seq.transport.locatePhase ≠ some .verify →
      ∃ t, exec (.profileGeneratorPeriod w) s = .next t ∧ t.marks = s.marks ∧ t.geom.head = s.geom.head
        ∧ t.speed.pointReported = false
        ∧ (s.seq.transport.locatePhase = some .approach → q = s.recompute a →
          t.seq.transport = (if s.seq.transport.isChase then .chase (.locating .verify) else .locate .verify)
            ∧ t.locate = { s.locate with active := some q, verifyTimer := true } ∧ t.speed.stopPoint = none
            ∧ t.map = s.map ∧ t.arb = s.arb ∧ t.ports = s.ports)
        ∧ (s.seq.transport.locatePhase = some .travel ∨ s.seq.transport.locatePhase = some .reposition →
          (a.target.verifying = true → q = s.recompute { a with newest := none } →
            (h - 2 ≤ q.stopPoint →
              t.seq.transport = (if s.seq.transport.isChase then .chase (.locating .approach) else .locate .approach)
                ∧ t.locate.active = some q ∧ t.locate.result = s.locate.result
                ∧ t.speed.stopPoint = some q.stopPoint ∧ t.speed.pointReported = false
                ∧ t.seq.outputs.pinchDown = true ∧ t.arb = s.arb ∧ t.ports = s.ports)
            ∧ (q.stopPoint < h - 2 → a.retries = a.limit →
              t.seq.transport = (if s.seq.transport.isChase then .chase .parked else .halting)
                ∧ t.locate.active = none ∧ (∀ p, (t.ports.port p).has .locateFailed = true)
                ∧ t.locate.result = some
                    { target := a.target, outcome := .missed, retries := a.retries, head := h, error := a.lastError })
            ∧ (q.stopPoint < h - 2 → a.retries ≠ a.limit →
              t.seq.transport
                  = (if s.seq.transport.isChase then .chase (.locating .reposition) else .locate .reposition)
                ∧ t.locate.active = some { q with retries := a.retries + 1 }
                ∧ t.speed.stopPoint = some (q.stopPoint - paramOf s.ports.params Param.approachDistance)
                ∧ t.ports = s.ports))
          ∧ (a.target.verifying = false → s.arb.chase ≠ .waiting → s.arb.slot = none →
            t.seq.transport = (if s.seq.transport.isChase then .chase .parked else .stopped)
              ∧ t.locate.active = none ∧ t.locate.located = s.locate.located
              ∧ (∀ p, (t.ports.port p).has .locateDone = true)
              ∧ t.locate.result = some
                  { target := a.target, outcome := .unverified, retries := a.retries, head := h
                    error := a.lastError }))

/-- A limit not raised and a timer not running change nothing, and the located pulse ends (R11, R34, R36, R37, R54, R58, R176, R178, R14, R38, R162, R169).
The set of raised events is the model's own (log entry 3). Each of the five timer expiries leaves the state as it is
while its timer does not run (log entry 7). What it says of a command is said of states in which no caught start waits
for its EXT_STOP, which every other command takes first (log entry 14). -/
def Obligations.EventsWithoutCauseChangeNothing : Prop :=
  (∀ (d : Due) (s : State), Due.extStopCatch ∉ s.due → d ∉ s.due → exec d.command s = .next s)
    ∧ ∀ s : State, Due.extStopCatch ∉ s.due →
        (s.tension.threadingTimer = false → exec .threadingTimerExpiry s = .next s)
          ∧ (s.geom.measuringTimer = false → exec .measuringTimerExpiry s = .next s)
          ∧ (s.seq.settleTimer = none → exec .settleTimerExpiry s = .next s)
          ∧ (s.seq.engageTimer = false → exec .engageTimerExpiry s = .next s)
          ∧ (s.locate.verifyTimer = false → exec .verifyTimerExpiry s = .next s)
          ∧ exec .locatedPulseEnd s = .next { s with locate := { s.locate with located := false } }

/-- A raised fault-class limit enters FAULTED with everything let go (R175, R179, R78, R181, R33, R84, R93, R183).
That a raised limit waits in the model's own list of due events, and leaves it when it is taken, is the model's
reading (log entry 3). What it says of a command is said of states in which no caught start waits for its EXT_STOP,
which every other command takes first (log entry 14). -/
def Obligations.FaultCauseEntersFaulted : Prop :=
  ∀ (d : Due) (c : Cause) (x y : CauseAxis) (r : Reel) (s : State),
    x = (match r with | .supply => CauseAxis.supply | .takeup => CauseAxis.takeup) →
    (d, c, y) ∈ [(Due.low r, Cause.tensionLoss, x), (.saturation r, .driveSaturated, x),
      (.capstanSaturation, .driveSaturated, .capstan), (.tapeOut, .tapeOut, .none)] → d ∈ s.due →
    s.seq.transport ≠ .unthreaded → s.seq.transport ≠ .faulted → Due.extStopCatch ∉ s.due →
    ∃ t, exec d.command s = .next t ∧ t.due = s.due.erase d ∧ t.seq.transport = .faulted
      ∧ t.seq.outputs
          = { driveEnable := false, brakesReleased := false, pinchDown := false, lifterOut := false, grant := false }
      ∧ (∀ q, (t.tension.axes.get q).word = 0) ∧ t.speed.loop.word = 0 ∧ t.speed.vRef = 0
      ∧ (∀ p, (t.ports.port p).has .fault = true) ∧ t.arb.active = none ∧ t.arb.slot = none ∧ t.locate.active = none
      ∧ t.seq.restDest = none ∧ t.seq.settleTimer = none ∧ t.seq.engageTimer = false
      ∧ t.prot.unread = true
      ∧ (s.prot.unread = false → ∃ q, t.prot.report = some q ∧ q.cause = c ∧ q.axis = y
          ∧ q.transport = s.seq.transport ∧ q.head = s.geom.head ∧ q.vMeas = s.speed.vMeas ∧ q.later = []
          ∧ q.motion = s.arb.active.map (fun m => (m.kind, m.source)))
      ∧ t.marks = s.marks ∧ t.arb.returns = s.arb.returns ∧ t.ports.params = s.ports.params
      ∧ t.geom.profiles = s.geom.profiles ∧ t.geom.bound = s.geom.bound

/-- A raised stop-class limit enters PROTECT_STOP from the states under tension (R175, R179, R77, R180, R51, R84, R93, R102, R183, R184).
That a release whose request line has risen and fallen again (protocol IDLE in CHASE RELEASING) is broken too is the
model's reading (log entry 15). That a raised limit waits in the model's own list of due events, and leaves it when it
is taken, is the model's reading (log entry 3). What it says of a command is said of states in which no caught start
waits for its EXT_STOP, which every other command takes first (log entry 14). -/
def Obligations.StopCauseEntersProtectStop : Prop :=
  ∀ (d : Due) (c : Cause) (x y : CauseAxis) (r : Reel) (s : State),
    x = (match r with | .supply => CauseAxis.supply | .takeup => CauseAxis.takeup) →
    (d, c, y) ∈ [(Due.reject r, Cause.geometry, x), (.high r, .overTension, x), (.overspeed r, .reelOverspeed, x),
      (.extStopCatch, .extStop, .none)] → d ∈ s.due →
    d = .extStopCatch ∨ Due.extStopCatch ∉ s.due →
    ∃ t, exec d.command s = .next t ∧ t.due = s.due.erase d
      ∧ (s.seq.transport.counting = true → s.seq.transport ≠ .protectStop →
        t.seq.transport = .protectStop ∧ t.seq.restDest = none ∧ t.seq.settleTimer = none ∧ t.seq.engageTimer = false
          ∧ t.speed.kind = some (if s.speed.vRef = 0 then .atRest
              else if s.speed.mode = .capstan ∨ (s.speed.mode = .deceleration ∧ s.speed.kind = some .capstan)
              then .capstan else .reel)
          ∧ t.speed.vRef = s.speed.vRef ∧ t.arb.active = none ∧ t.arb.slot = none ∧ t.locate.active = none
          ∧ t.prot.unread = true
          ∧ (s.arb.chase = .starting ∨ s.seq.transport.isChase = true →
            (∀ p, (t.ports.port p).has .chaseBroken = true)
              ∧ t.arb.chase = (if s.arb.chase = .waiting then .waiting else if s.arb.chaseLine then .spent else .idle)))
      ∧ (s.seq.transport = .threading →
        t.seq.transport = .unthreading ∧ (∀ p, (t.ports.port p).has .protectedStop = true) ∧ t.geom.head = s.geom.head)
      ∧ (s.seq.transport = .protectStop ∨ s.seq.transport = .unthreading ∨ s.seq.transport = .faulted →
        t = { s with due := s.due.erase d, prot := t.prot })
      ∧ (s.seq.transport = .unthreaded → t = { s with due := s.due.erase d })
      ∧ (s.seq.transport ≠ .unthreaded →
        t.prot.unread = true
          ∧ (s.prot.unread = false → ∃ q, t.prot.report = some q ∧ q.cause = c ∧ q.axis = y
            ∧ q.transport = s.seq.transport ∧ q.head = s.geom.head ∧ q.vMeas = s.speed.vMeas ∧ q.later = []
            ∧ q.motion = s.arb.active.map (fun m => (m.kind, m.source)))
          ∧ ∀ q, s.prot.unread = true → s.prot.report = some q →
            t.prot.report = some { q with later := if c ∈ q.later then q.later else q.later ++ [c] })
      ∧ t.marks = s.marks ∧ t.arb.returns = s.arb.returns ∧ t.ports.params = s.ports.params

/-- An empty or read report is overwritten whole by a cause; an unread one takes its name (R184). -/
def Obligations.CaptureKeepsFirstUnreadCause : Prop :=
  ∀ (c : Cause) (a : CauseAxis) (s : State),
    ((s.prot.report = none ∨ s.prot.unread = false) →
      s.capture c a = { s with prot := { s.prot with
        unread := true
        report := some
          { cause := c, axis := a, transport := s.seq.transport,
            motion := s.arb.active.map (fun m => (m.kind, m.source)), head := s.geom.head, vMeas := s.speed.vMeas,
            arms := ⟨s.tension.axes.supply.arm, s.tension.axes.takeup.arm⟩,
            words := ⟨s.tension.axes.supply.word, s.tension.axes.takeup.word⟩, capstanWord := s.speed.loop.word,
            circumferences := ⟨s.geom.est.supply.c, s.geom.est.takeup.c⟩, later := [] } } })
    ∧ ∀ r, s.prot.report = some r → s.prot.unread = true →
      s.capture c a = { s with prot := { s.prot with
        report := some { r with later := if c ∈ r.later then r.later else r.later ++ [c] } } }

/-- Every step keeps the outputs, the generator mode and the deceleration kind those of the state (R62, R94, R45, R51). -/
def Obligations.OutputsFollowTransport : Prop :=
  ∀ s t : State, step s = .next t → OutputsFollow s → OutputsFollow t
    ∧ (t.seq.outputs.driveEnable = true ↔ t.seq.transport ∉ [Transport.unthreaded, .faulted])
    ∧ (t.seq.outputs.brakesReleased = true ↔ t.seq.transport ∉ [Transport.unthreaded, .faulted])
    ∧ (t.seq.outputs.pinchDown = true ↔
      t.seq.transport ∈ [Transport.play .engage, .play .running, .locate .approach, .locate .verify, .chase .rolling,
          .chase (.locating .approach), .chase (.locating .verify)]
        ∨ (t.seq.transport ∈ [Transport.halting, .protectStop, .chase .releasing] ∧ t.speed.kind = some .capstan))
    ∧ (t.seq.outputs.lifterOut = true ↔ t.seq.outputs.pinchDown = true ∨ t.seq.transport = .shuttle)
    ∧ (t.seq.outputs.grant = true ↔ ∃ p, t.seq.transport = .chase p)
    ∧ (t.speed.mode = .forced ↔ t.seq.transport ∈ [Transport.unthreaded, .faulted])
    ∧ (t.speed.mode = .still ↔
      t.seq.transport ∈ [Transport.threading, .settling, .stopped, .unthreading, .chase .parked])
    ∧ (t.speed.mode = .reel ↔
      t.seq.transport ∈ [Transport.measuring .creep, .wind, .shuttle, .locate .travel, .locate .reposition,
        .chase (.locating .travel), .chase (.locating .reposition)])
    ∧ (t.speed.mode = .capstan ↔
      t.seq.transport ∈ [Transport.play .engage, .play .running, .chase .rolling, .locate .approach, .locate .verify,
        .chase (.locating .approach), .chase (.locating .verify)])
    ∧ (t.speed.mode = .deceleration ↔
      t.seq.transport ∈ [Transport.play .braking, .measuring .creepStop, .halting, .protectStop, .chase .releasing])

/-- Every step keeps each timer to the state or phase that starts it (R14, R38, R69, R72, R162). -/
def Obligations.TimersFollowTransport : Prop :=
  ∀ s t : State, step s = .next t → TimersFollow s → TimersFollow t

/-- Every step keeps the drive words within their limits, and the drives at 0 in UNTHREADED and FAULTED (R31, R33, R45, R53, R55, R60, R202). -/
def Obligations.DrivesStayLimitedAndForced : Prop :=
  ∀ s t : State, step s = .next t → ParamsInRange s.ports.params →
    ParamsInRange t.ports.params ∧ (DriveWordsWithin s → DriveWordsWithin t) ∧ (ForcedAtRest s → ForcedAtRest t)

/-- The threading, measuring, settle and engage timers act as their rules give (R14, R38, R69, R70, R72, R78, R77).
The bands that name the axis of TENSION_LOSS are those of the arm centres that stand at the expiry, which is the model's
reading where an arm centre has changed since the last test (log entry 36). What it says of a command is said of states
in which no caught start waits for its EXT_STOP, which every other command takes first (log entry 14). -/
def Obligations.TimerExpiriesAct : Prop :=
  ∀ s : State, Due.extStopCatch ∉ s.due →
    (s.tension.threadingTimer = true → s.seq.transport = .threading → s.prot.unread = false →
      ∃ t, exec .threadingTimerExpiry s = .next t ∧ t.seq.transport = .faulted ∧ t.geom.head = s.geom.head
        ∧ (∀ p, (t.ports.port p).has .fault = true)
        ∧ ∃ q, t.prot.report = some q ∧ q.cause = .tensionLoss
          ∧ (200 < mag (s.tension.axes.supply.arm - armCentre s.ports.params .supply) → q.axis = .supply)
          ∧ (mag (s.tension.axes.supply.arm - armCentre s.ports.params .supply) ≤ 200 →
            200 < mag (s.tension.axes.takeup.arm - armCentre s.ports.params .takeup) → q.axis = .takeup))
    ∧ (s.geom.measuringTimer = true → s.seq.transport.isMeasuring = true → s.prot.unread = false →
      (s.geom.est.supply.mode = .initial ∨ s.geom.est.takeup.mode = .initial) →
      ∃ t, exec .measuringTimerExpiry s = .next t ∧ t.seq.transport = .protectStop ∧ t.geom.head = some 0
        ∧ t.geom.est.supply.mode = .tracking ∧ t.geom.est.takeup.mode = .tracking
        ∧ ∃ q, t.prot.report = some q ∧ q.cause = .geometry
          ∧ q.axis = (if s.geom.est.supply.mode = .initial then .supply else .takeup))
    ∧ (∀ ms, s.seq.settleTimer = some ms → s.seq.transport = .settling → s.arb.chase ≠ .waiting → s.arb.slot = none →
      ∃ t, exec .settleTimerExpiry s = .next t ∧ t.seq.transport = .stopped ∧ t.seq.settleTimer = none
        ∧ t.arb.active = none ∧ t.geom.head = s.geom.head ∧ t.marks = s.marks ∧ t.map = s.map ∧ t.ports = s.ports)
    ∧ (s.seq.engageTimer = true → s.seq.transport = .play .engage →
      ∃ t, exec .engageTimerExpiry s = .next t ∧ t.seq.transport = .play .running ∧ t.seq.engageTimer = false
        ∧ t.seq.outputs.pinchDown = true ∧ t.seq.outputs.lifterOut = true ∧ t.arb = s.arb ∧ t.geom = s.geom
        ∧ t.speed.loop = s.speed.loop ∧ t.speed.vRef = s.speed.vRef ∧ t.map = s.map ∧ t.marks = s.marks)

/-- An entry to STOPPED grants a waiting chase, then judges the held request: carried out, returned to the slot, or dropped (R69, R70, R92, R93, R95, R96, R98, R100, R104, R71, R83).
What it says of a command is said of states in which no caught start waits for its EXT_STOP, which every other command
takes first (log entry 14). -/
def Obligations.StoppedEntryGrantsThenJudges : Prop :=
  ∀ s : State, s.seq.settleTimer.isSome = true → s.seq.transport = .settling → s.arb.chase ≠ .releasing →
    s.locate.active = none → Due.extStopCatch ∉ s.due →
    ∃ t, exec .settleTimerExpiry s = .next t ∧ t.geom.head = s.geom.head ∧ t.marks = s.marks ∧ t.map = s.map
      ∧ t.ports.params = s.ports.params ∧ t.prot = s.prot
      ∧ (s.arb.slot = none → s.arb.chase = .waiting →
        (paramOf s.ports.params Param.lockoutLevel ≤ paramOf s.ports.params Param.chaseLevel →
          t.seq.transport = .chase .parked ∧ t.seq.outputs.grant = true ∧ t.speed.chaseRatio = 4096 ∧ t.ports = s.ports
            ∧ t.arb = { s.arb with
                chase := .granted
                active := some { kind := .chase, source := .chase, level := paramOf s.ports.params Param.chaseLevel } })
        ∧ (paramOf s.ports.params Param.chaseLevel < paramOf s.ports.params Param.lockoutLevel →
          t.seq.transport = .stopped ∧ t.arb = { s.arb with active := none } ∧ t.ports = s.ports))
      ∧ ∀ h, s.arb.slot = some h →
        ((s.arb.chase ≠ .waiting
            ∨ paramOf s.ports.params Param.chaseLevel < paramOf s.ports.params Param.lockoutLevel) →
          (s.portLevel h.port < paramOf s.ports.params Param.lockoutLevel →
            ¬(h.port = .panel ∧ (h.req = .stop ∨ h.req = .unthread)) →
            t.seq.transport = .stopped ∧ t.arb = { s.arb with active := none, slot := none }
              ∧ (t.ports.port h.port).has .pendingDropped = true)
          ∧ (paramOf s.ports.params Param.lockoutLevel ≤ s.portLevel h.port →
            (∀ (k : MotionKind) (tr : Transport),
              (h.req = .play ∧ k = .play ∧ tr = .play .braking) ∨ (∃ v, h.req = .wind v ∧ k = .wind ∧ tr = .wind)
                ∨ (∃ v, h.req = .shuttle v ∧ k = .shuttle ∧ tr = .shuttle) →
              t.seq.transport = tr ∧ t.ports = s.ports
                ∧ t.arb = { s.arb with
                    slot := none
                    active := some { kind := k, source := h.port.source, level := s.portLevel h.port } })
            ∧ (∀ v, h.req = .wind v ∨ h.req = .shuttle v → t.speed.requested = v)
            ∧ ∀ e, h.req = .returnBack → h.entry = some e →
              t.seq.transport.locatePhase.isSome = true ∧ t.seq.transport.isChase = false ∧ t.ports = s.ports
                ∧ t.arb = { s.arb with
                    slot := none
                    active := some { kind := .locate, source := h.port.source, level := s.portLevel h.port } }
                ∧ ∃ r, t.locate.active = some r ∧ r.target = .returnTo e ∧ r.aim = e.length))
        ∧ (s.arb.chase = .waiting →
          paramOf s.ports.params Param.lockoutLevel ≤ paramOf s.ports.params Param.chaseLevel → ∀ v, h.req = .wind v →
          (h.port = .panel → paramOf s.ports.params Param.lockoutLevel ≤ s.portLevel .panel →
            (s.portLevel .panel ≤ paramOf s.ports.params Param.chaseLevel →
              t.seq.transport = .chase .parked ∧ t.arb.chase = .granted ∧ t.arb.slot = some h ∧ t.ports = s.ports)
            ∧ (paramOf s.ports.params Param.chaseLevel < s.portLevel .panel →
              t.seq.transport = .wind ∧ t.speed.requested = v ∧ (∀ p, (t.ports.port p).has .chaseBroken = true)
                ∧ t.arb = { s.arb with
                    slot := none
                    chase := if s.arb.chaseLine then .spent else .idle
                    active := some { kind := .wind, source := .panel, level := s.portLevel .panel } }))
          ∧ (h.port = .studio →
            t.seq.transport = .chase .parked ∧ t.arb.chase = .granted ∧ t.arb.slot = none
              ∧ (t.ports.port .studio).has .pendingDropped = true))

/-- At rest the verify timer compares the address estimate with the target within the window (R162, R163, R164, R165, R159, R166, R167, R168, R169).
The error kept in a result is the last one evaluated in the whole locate (log entry 23), and a target address reads 0
where none is held (log entry 28). What it says of a command is said of states in which no caught start waits for its
EXT_STOP, which every other command takes first (log entry 14). -/
def Obligations.VerifyTimerEvaluatesAtRest : Prop :=
  ∀ (r : LocateRecord) (h : Int) (s : State), s.locate.verifyTimer = true → s.locate.active = some r →
    (s.seq.transport = .locate .verify ∧ s.arb.chase ≠ .waiting ∧ s.arb.slot = none)
      ∨ s.seq.transport = .chase (.locating .verify) → s.geom.head = some h →
    Due.extStopCatch ∉ s.due →
    ∃ t, exec .verifyTimerExpiry s = .next t
      ∧ (62 < mag s.speed.vMeas → t = s)
      ∧ (mag s.speed.vMeas ≤ 62 → ∀ n e, r.newest = some n →
        e = r.targetAddr.getD 0 - (n.address + roundDiv ((h - r.offset - n.length) * 1024) n.pitch) →
        mag e ≤ paramOf s.ports.params Param.locateWindow →
        t.seq.transport = (if s.seq.transport.isChase then .chase .parked else .stopped)
          ∧ t.locate.active = none ∧ t.locate.located = true ∧ t.locate.verifyTimer = false
          ∧ t.locate.result
              = some { target := r.target, outcome := .verified, retries := r.retries, head := h, error := some e }
          ∧ (∀ p, (t.ports.port p).has .locateDone = true)
          ∧ t.arb.active = (if s.seq.transport.isChase then s.arb.active else none) ∧ t.marks = s.marks)
      ∧ (mag s.speed.vMeas ≤ 62 → ∀ n e, r.newest = some n →
        e = r.targetAddr.getD 0 - (n.address + roundDiv ((h - r.offset - n.length) * 1024) n.pitch) →
        paramOf s.ports.params Param.locateWindow < mag e →
        t.marks = s.marks ∧ t.locate.located = s.locate.located ∧ t.locate.verifyTimer = false
          ∧ (r.retries = r.limit →
            t.seq.transport = (if s.seq.transport.isChase then .chase .parked else .halting)
            ∧ t.seq.restDest = (if s.seq.transport.isChase then none else some .stopped) ∧ t.locate.active = none
              ∧ t.locate.result
                  = some { target := r.target, outcome := .missed, retries := r.retries, head := h, error := some e }
              ∧ ∀ p, (t.ports.port p).has .locateFailed = true)
          ∧ (r.retries ≠ r.limit → r.target.verifying = true → ∀ q,
            q = s.recompute { r with retries := r.retries + 1, lastError := some e } →
            t.locate.result = s.locate.result ∧ t.ports = s.ports ∧ t.arb = s.arb ∧ t.speed.vRef = s.speed.vRef
              ∧ (q.stopPoint - paramOf s.ports.params Param.approachDistance ≤ h → h ≤ q.stopPoint → 0 ≤ s.speed.vRef →
                t.seq.transport = (if s.seq.transport.isChase then .chase (.locating .approach) else .locate .approach)
                  ∧ t.locate.active = some { q with newest := none }
                  ∧ t.speed.stopPoint = some q.stopPoint)
              ∧ ((h < q.stopPoint - paramOf s.ports.params Param.approachDistance ∨ q.stopPoint < h ∨ s.speed.vRef < 0) →
                t.seq.transport
                    = (if s.seq.transport.isChase then .chase (.locating .reposition) else .locate .reposition)
                  ∧ t.locate.active = some q
                  ∧ t.speed.stopPoint = some (q.stopPoint - paramOf s.ports.params Param.approachDistance))))
      ∧ (mag s.speed.vMeas ≤ 62 → r.newest = none → r.targetState ≠ some .notInMap →
        t.seq.transport = (if s.seq.transport.isChase then .chase .parked else .stopped)
          ∧ t.locate.active = none ∧ t.locate.located = s.locate.located
          ∧ t.locate.result
              = some { target := r.target, outcome := .unverified, retries := r.retries, head := h, error := r.lastError }
          ∧ (∀ p, (t.ports.port p).has .locateDone = true)
          ∧ t.arb.active = (if s.seq.transport.isChase then s.arb.active else none))
      ∧ (mag s.speed.vMeas ≤ 62 → r.newest = none → r.targetState = some .notInMap →
        t.seq.transport = (if s.seq.transport.isChase then .chase .parked else .halting)
            ∧ t.seq.restDest = (if s.seq.transport.isChase then none else some .stopped) ∧ t.locate.active = none
          ∧ t.locate.result
              = some { target := r.target, outcome := .noAddress, retries := r.retries, head := h, error := r.lastError }
          ∧ (∀ p, (t.ports.port p).has .locateFailed = true) ∧ t.locate.located = s.locate.located)

/-- Leader appearing halts or stops the tape, and the external stop line's rising edge takes EXT_STOP (R63, R74, R77, R177, R89, R178, R175).
What it says of a command is said of states in which no caught start waits for its EXT_STOP, which every other command
takes first (log entry 14). -/
def Obligations.LeaderAndExternalStopLineAct : Prop :=
  (∀ (reading : Leader) (first : Bool) (s : State), Due.extStopCatch ∉ s.due →
    ∃ t, exec (.leaderSensorChange reading first) s = .next t ∧ t.seq.leaderSeen = reading
      ∧ ((s.seq.leaderSeen = .leader ∨ reading = .tape) →
        t = { s with seq := { s.seq with leaderSeen := reading } })
      ∧ (s.seq.leaderSeen = .tape → reading = .leader →
        mag s.speed.vMeas ≤ paramOf s.ports.params Param.endSpeed →
        (s.seq.transport.watchesLeader = false → t = { s with seq := { s.seq with leaderSeen := reading } })
          ∧ (s.seq.transport.watchesLeader = true →
            t.seq.transport = .halting ∧ t.seq.restDest = some .stopped ∧ t.prot = s.prot ∧ t.ports = s.ports
              ∧ t.arb = { s.arb with active := s.arb.active.map (fun m => { m with kind := .stop }) }
              ∧ t.speed.vRef = s.speed.vRef ∧ t.geom.head = s.geom.head ∧ t.marks = s.marks))
      ∧ (s.seq.leaderSeen = .tape → reading = .leader →
        paramOf s.ports.params Param.endSpeed < mag s.speed.vMeas → s.seq.transport.counting = true →
        t.seq.transport = .protectStop ∧ t.prot.unread = true
          ∧ (s.seq.transport ≠ .protectStop → t.arb.active = none ∧ t.arb.slot = none)))
    ∧ (∀ (asserted : Bool) (s : State), Due.extStopCatch ∉ s.due →
    ∃ t, exec (.externalStopLineChange asserted) s = .next t ∧ t.prot.extStop = asserted
      ∧ ((asserted = false ∨ s.prot.extStop = true ∨ s.seq.transport = .unthreaded) →
        t = { s with prot := { s.prot with extStop := asserted } })
      ∧ (asserted = true → s.prot.extStop = false → s.seq.transport.counting = true →
        t.seq.transport = .protectStop ∧ t.prot.unread = true
          ∧ (s.seq.transport ≠ .protectStop → t.arb.active = none ∧ t.arb.slot = none ∧ t.locate.active = none)
          ∧ (s.prot.unread = false → ∃ q, t.prot.report = some q ∧ q.cause = .extStop ∧ q.axis = .none
            ∧ q.transport = s.seq.transport)))

/-- A rising chase request is granted in STOPPED, rolls on from PLAY RUNNING, halts other motions of a lower level, or waits (R94, R95, R96, R50, R90, R171, R82, R178).
A rise of a line that is already high changes nothing (log entry 29); the error kept in a locate result is the last
one evaluated in the whole locate (log entry 23), and its head length reads 0 where none is defined (log entry 28).
Each entry to CHASE raises the level catch while the external stop line is asserted in LEVEL mode, and the halt of a
chase start does not (log entries 3 and 14). What it says of a command is said of states in which no caught start
waits for its EXT_STOP, which every other command takes first (log entry 14). -/
def Obligations.ChaseGrantedAtRestAndInMotion : Prop :=
  (∀ (s : State) (caught : List Due), Due.extStopCatch ∉ s.due →
    caught = (if s.prot.extStop = true ∧ paramOf s.ports.params Param.extStopMode = 0 then [.extStopCatch] else []) →
    (s.arb.chaseLine = true → exec .chaseRequestRise s = .next s)
    ∧ (s.arb.chaseLine = false → s.arb.chase = .idle →
      (paramOf s.ports.params Param.chaseLevel < paramOf s.ports.params Param.lockoutLevel →
        exec .chaseRequestRise s = .next { s with arb := { s.arb with chaseLine := true, chase := .waiting } })
      ∧ (paramOf s.ports.params Param.lockoutLevel ≤ paramOf s.ports.params Param.chaseLevel →
        (s.seq.transport = .stopped → s.arb.active = none → s.locate.active = none →
          ∃ t, exec .chaseRequestRise s = .next t ∧ t.seq.transport = .chase .parked ∧ t.seq.outputs.grant = true
            ∧ t.arb = { s.arb with
                chaseLine := true, chase := .granted,
                active := some
                  { kind := .chase, source := .chase, level := paramOf s.ports.params Param.chaseLevel } }
            ∧ t.speed.chaseRatio = 4096 ∧ t.ports = s.ports ∧ t.geom.head = s.geom.head ∧ t.marks = s.marks
            ∧ t.map = s.map ∧ t.due = s.due ++ caught)
        ∧ (s.seq.transport ≠ .stopped →
            ((∀ p, s.seq.transport ≠ .play p) ∧ s.seq.transport ≠ .wind ∧ s.seq.transport ≠ .shuttle
              ∧ (∀ p, s.seq.transport ≠ .locate p) ∧ s.seq.transport ≠ .halting)
            ∨ (∃ m, s.arb.active = some m
              ∧ (m.kind = .unthread ∨ paramOf s.ports.params Param.chaseLevel ≤ m.level)) →
          exec .chaseRequestRise s = .next { s with arb := { s.arb with chaseLine := true, chase := .waiting } })
        ∧ ∀ m, s.arb.active = some m → m.kind ≠ .unthread → m.level < paramOf s.ports.params Param.chaseLevel →
          ((∃ p, s.seq.transport = .play p) ∨ s.seq.transport = .wind ∨ s.seq.transport = .shuttle
            ∨ (∃ p, s.seq.transport = .locate p) ∨ s.seq.transport = .halting) →
          ∃ t, exec .chaseRequestRise s = .next t
            ∧ (s.seq.transport = .play .running →
              t.seq.transport = .chase .rolling ∧ t.seq.outputs.grant = true ∧ t.speed.chaseRatio = 4096
                ∧ t.map = s.map ∧ t.due = s.due ++ caught
                ∧ t.arb = { s.arb with
                    chaseLine := true, chase := .granted,
                    active := some
                      { kind := .chase, source := .chase, level := paramOf s.ports.params Param.chaseLevel } })
            ∧ (s.seq.transport ≠ .play .running →
              t.seq.transport = .halting ∧ t.seq.restDest = some .chaseParked ∧ t.seq.outputs.grant = false
                ∧ t.due = s.due
                ∧ t.arb = { s.arb with
                    chaseLine := true, chase := .starting,
                    active := some
                      { kind := .stop, source := .chase, level := paramOf s.ports.params Param.chaseLevel } })
            ∧ (m.source ≠ .chase → ∀ p, (t.ports.port p).has .preempted = true)
            ∧ (m.source = .chase → t.ports = s.ports)
            ∧ t.locate.active = none ∧ t.speed.vRef = s.speed.vRef ∧ t.geom.head = s.geom.head ∧ t.marks = s.marks
            ∧ t.prot = s.prot
            ∧ ∀ r, s.locate.active = some r →
              t.locate.result = some
                { target := r.target, outcome := .preempted, retries := r.retries,
                  head := s.geom.head.getD 0, error := r.lastError }))
    ∧ (s.arb.chaseLine = false → s.arb.chase = .releasing →
      exec .chaseRequestRise s = .next { s with arb := { s.arb with chaseLine := true, chase := .waiting } }))
    ∧ ∀ (n : Nat) (v : Int) (row : ParamRow) (m : Motion) (ps : List Int) (s : State), Param.panelLevel ≤ n →
      n ≤ Param.lockoutLevel → paramRows[n]? = some row → row.lo ≤ v → v ≤ row.hi → s.arb.chase = .waiting →
      ps = s.ports.params.set n v → s.arb.active = some m →
      (s.seq.transport = .wind ∨ s.seq.transport = .shuttle ∨ s.seq.transport = .halting) →
      (s.setParameter n v).status = .ok
      ∧ (paramOf ps Param.chaseLevel < paramOf ps Param.lockoutLevel ∨ m.kind = .unthread
          ∨ paramOf ps Param.chaseLevel ≤ m.level →
        (s.setParameter n v).state = { s with ports := { s.ports with params := ps } })
      ∧ (paramOf ps Param.lockoutLevel ≤ paramOf ps Param.chaseLevel → m.kind ≠ .unthread →
        m.level < paramOf ps Param.chaseLevel →
        ∃ t, (s.setParameter n v).state = t ∧ t.ports.params = ps ∧ t.seq.transport = .halting
          ∧ t.seq.restDest = some .chaseParked
          ∧ t.arb = { s.arb with
              chase := .starting
              active := some { kind := .stop, source := .chase, level := paramOf ps Param.chaseLevel } }
          ∧ (m.source ≠ .chase → ∀ p, (t.ports.port p).has .preempted = true)
          ∧ t.speed.vRef = s.speed.vRef ∧ t.marks = s.marks)

/-- A falling chase request releases or idles, and in CHASE the studio's requests act on the phase (R97, R101, R171, R98, R99, R51, R62).
A fall of a line that is already low changes nothing (log entry 29). The clauses on CHASE RELEASING hold with the
protocol IDLE too (log entry 15). The error kept in a locate result is the last one evaluated in the whole locate (log
entry 23), and its head length reads 0 where none is defined (log entry 28). With v_ref not 0 the release is of kind
CAPSTAN from ROLLING, APPROACH and VERIFY and REEL from TRAVEL, REPOSITION and PARKED; with v_ref 0 it is AT_REST from
every phase, which is the model's reading of R51 beside R101 (log entry 33). What it says of a command is said of
states in which no caught start waits for its EXT_STOP, which every other command takes first (log entry 14). -/
def Obligations.ChaseReleasedAndDrivenByStudio : Prop :=
  (∀ s : State, Due.extStopCatch ∉ s.due →
    (s.arb.chaseLine = false → exec .chaseRequestFall s = .next s)
    ∧ (s.arb.chaseLine = true →
      (s.arb.chase = .waiting ∨ s.arb.chase = .spent →
        exec .chaseRequestFall s = .next { s with arb := { s.arb with chaseLine := false, chase := .idle } })
      ∧ (s.arb.chase = .starting → s.seq.transport = .halting →
        ∃ t, exec .chaseRequestFall s = .next t ∧ t.seq.transport = .halting ∧ t.seq.restDest = some .stopped
          ∧ t.arb = { s.arb with chaseLine := false, chase := .idle } ∧ t.speed = s.speed ∧ t.ports = s.ports)
      ∧ (s.arb.chase = .granted → s.seq.transport.isChase = true →
        ∃ t, exec .chaseRequestFall s = .next t ∧ t.seq.transport = .chase .releasing
          ∧ t.arb = { s.arb with chaseLine := false, chase := .releasing } ∧ t.seq.outputs.grant = true
          ∧ t.locate.active = none ∧ t.locate.located = s.locate.located ∧ t.ports = s.ports
          ∧ (OutputsFollow s → s.seq.transport ≠ .chase .releasing →
            (s.speed.vRef = 0 → t.speed.kind = some .atRest)
            ∧ (s.speed.vRef ≠ 0 → s.seq.transport ∈ [Transport.chase .rolling, .chase (.locating .approach),
                .chase (.locating .verify)] → t.speed.kind = some .capstan ∧ t.seq.outputs.pinchDown = true)
            ∧ (s.speed.vRef ≠ 0 → s.seq.transport ∈ [Transport.chase .parked, .chase (.locating .travel),
                .chase (.locating .reposition)] → t.speed.kind = some .reel ∧ t.seq.outputs.pinchDown = false))
          ∧ ∀ r, s.locate.active = some r →
            t.locate.result = some
              { target := r.target, outcome := .released, retries := r.retries,
                head := s.geom.head.getD 0, error := r.lastError })))
    ∧ ∀ s : State, paramOf s.ports.params Param.lockoutLevel ≤ s.portLevel .studio →
      (∀ ratio, s.seq.transport.isChase = false → s.motion .studio (.chaseSpeed ratio) = (s, .badState))
      ∧ (s.seq.transport = .halting → s.arb.chase = .starting →
        s.motion .studio .play = (s, .busy)
          ∧ (∀ v, s.motion .studio (.wind v) = (s, .busy) ∧ s.motion .studio (.shuttle v) = (s, .busy))
          ∧ ∀ l : Int, -8388608 ≤ l → l ≤ 8388607 → s.motion .studio (.locateLength l) = (s, .busy))
      ∧ ∀ p, s.seq.transport = .chase p →
        (∀ ratio, ∃ t, s.motion .studio (.chaseSpeed ratio) = (t, if 3584 ≤ ratio ∧ ratio ≤ 4608 then .ok else .clamped)
          ∧ t = { s with speed := { s.speed with chaseRatio := max 3584 (min 4608 ratio) }, ports := t.ports }
          ∧ (3584 ≤ ratio ∧ ratio ≤ 4608 → t.ports = s.ports)
          ∧ (¬(3584 ≤ ratio ∧ ratio ≤ 4608) → ∀ k, (t.ports.port k).has .chaseClamped = true))
        ∧ (∀ v, s.motion .studio (.wind v) = (s, if p = .releasing then .busy else .badState)
          ∧ s.motion .studio (.shuttle v) = (s, if p = .releasing then .busy else .badState))
        ∧ (p = .parked ∨ p = .releasing → s.motion .studio .stop = (s, .ok))
        ∧ (p = .rolling → s.motion .studio .play = (s, .ok))
        ∧ (p = .releasing ∨ p = .locating .travel ∨ p = .locating .reposition
            ∨ (p = .parked ∧ (s.speed.vRef < 0
              ∨ roundDiv (paramOf s.ports.params Param.playSpeed * s.speed.chaseRatio) 4096 < s.speed.vRef)) →
          s.motion .studio .play = (s, .busy))
        ∧ (∀ l : Int, -8388608 ≤ l → l ≤ 8388607 →
          (p = .releasing → s.motion .studio (.locateLength l) = (s, .busy))
          ∧ (p ≠ .releasing → ∃ t, s.motion .studio (.locateLength l) = (t, .ok)
            ∧ t.seq.transport = .chase (.locating .travel)
            ∧ t.arb = { s.arb with returns := t.arb.returns } ∧ t.speed.vRef = s.speed.vRef ∧ t.marks = s.marks
            ∧ (∃ r, t.locate.active = some r ∧ r.target = .length l ∧ r.retries = 0
              ∧ t.speed.stopPoint = some r.stopPoint)
            ∧ ∀ x, s.locate.active = some x →
              t.locate.result = some
                { target := x.target, outcome := .replaced, retries := x.retries,
                  head := s.geom.head.getD 0, error := x.lastError }))
        ∧ ∀ (req : MotionReq) (q : ChasePhase),
          (req = .stop ∧ q = .parked ∧ (p = .rolling ∨ ∃ k, p = .locating k))
            ∨ (req = .play ∧ q = .rolling ∧ (p = .locating .approach ∨ p = .locating .verify
              ∨ (p = .parked ∧ 0 ≤ s.speed.vRef
                ∧ s.speed.vRef ≤ roundDiv (paramOf s.ports.params Param.playSpeed * s.speed.chaseRatio) 4096))) →
          ∃ t, s.motion .studio req = (t, .ok) ∧ t.seq.transport = .chase q ∧ t.seq.outputs.grant = true
            ∧ t.seq.outputs.pinchDown = (q == .rolling) ∧ t.arb = s.arb ∧ t.ports = s.ports
            ∧ t.speed.vRef = s.speed.vRef ∧ t.locate.active = none ∧ t.marks = s.marks
            ∧ ∀ r, s.locate.active = some r →
              t.locate.result = some
                { target := r.target, outcome := .replaced, retries := r.retries,
                  head := s.geom.head.getD 0, error := r.lastError }

/-- A motion request that fails its state or lockout test has no effect (R64, R83, R85). -/
def Obligations.MotionRefusedOutsideItsStates : Prop :=
  ∀ (port : Port) (req : MotionReq) (s : State),
    (s.seq.transport = .protectStop ∨ s.seq.transport = .unthreading
        ∨ (s.seq.transport = .faulted ∧ req ≠ .clearFault) →
      (s.motion port req).1 = s ∧ (s.motion port req).2.accepted = false)
    ∧ (s.operandTest req = none →
        (match req with
          | .thread _ _ => s.seq.transport ≠ .unthreaded
          | .clearFault => s.seq.transport ≠ .faulted
          | .chaseSpeed _ => s.seq.transport.isChase = false
          | .stop | .unthread =>
            s.seq.transport ∈ [Transport.unthreaded, .protectStop, .faulted, .unthreading]
          | .play | .wind _ | .shuttle _ | .locateMark _ | .locateAddress _ | .locateLength _ | .returnBack =>
            s.seq.transport ∈ [Transport.unthreaded, .threading, .protectStop, .faulted, .unthreading]
              ∨ s.seq.transport.isMeasuring = true) →
      s.motion port req = (s, .badState))
    ∧ (s.operandTest req = none → req.validIn s.seq.transport = true → s.seq.transport.isChase = false →
      s.portLevel port < paramOf s.ports.params Param.lockoutLevel →
      ¬(port = .panel ∧ (req = .stop ∨ req = .unthread)) → s.motion port req = (s, .lockedOut))

/-- THREAD binds and threads, CLEAR_FAULT re-tensions or ends in UNTHREADED, and UNTHREAD acts by the state that stands (R5, R13, R178, R65, R58, R38, R79, R39, R80, R81, R93, R100).
In HALTING and CREEP_STOP it changes the destination alone (log entry 17), and in a release with the protocol IDLE it
breaks the chase as well (log entry 15). None of the three raises the level catch of R178 (log entries 3 and 14). -/
def Obligations.ThreadClearFaultAndUnthreadAct : Prop :=
  (∀ (a b : Nat) (ps pt : Profile) (s : State), s.seq.transport = .unthreaded → a ≤ 3 → b ≤ 3 →
    s.geom.profiles[a]? = some (some ps) → s.geom.profiles[b]? = some (some pt) →
    paramOf s.ports.params Param.lockoutLevel ≤ paramOf s.ports.params Param.panelLevel →
    (s.tapePath = .opened → s.motion .panel (.thread a b) = (s, .noTape))
    ∧ (s.tapePath = .closed →
      ∃ t, s.motion .panel (.thread a b) = (t, .ok) ∧ t.seq.transport = .threading
        ∧ t.arb.active
            = some { kind := .thread, source := .panel, level := paramOf s.ports.params Param.panelLevel }
        ∧ t.geom.bound = ⟨some a, some b⟩
        ∧ t.geom.est = ⟨{ c := some (truncDiv (ps.ch + ps.cf) 2), mode := .initial, dn := 0, dl := 0, reject := 0 },
                        { c := some (truncDiv (pt.ch + pt.cf) 2), mode := .initial, dn := 0, dl := 0, reject := 0 }⟩
        ∧ t.seq.outputs = { driveEnable := true, brakesReleased := true, pinchDown := false, lifterOut := false,
                            grant := false }
        ∧ t.seq.creepCancelled = false ∧ t.tension.threadingTimer = true ∧ t.speed.overspeed = ⟨0, 0⟩
        ∧ t.geom.profiles = s.geom.profiles ∧ t.geom.head = s.geom.head ∧ t.marks = s.marks
        ∧ t.ports.params = s.ports.params ∧ t.prot.report = s.prot.report ∧ t.due = s.due))
    ∧ (∀ s : State, s.seq.transport = .faulted →
      paramOf s.ports.params Param.lockoutLevel ≤ paramOf s.ports.params Param.panelLevel →
      ∃ t, s.motion .panel .clearFault = (t, .ok)
        ∧ (∀ r, (t.tension.axes.get r).integ = 0 ∧ (t.tension.axes.get r).satCount = 0
          ∧ (t.tension.axes.get r).lowCount = 0 ∧ (t.tension.axes.get r).highCount = 0
          ∧ (t.geom.est.get r).reject = 0)
        ∧ t.speed.overspeed = ⟨0, 0⟩ ∧ t.speed.loop.satCount = 0 ∧ t.prot.tapeOut = 0 ∧ t.ports.params = s.ports.params
        ∧ t.due = s.due
        ∧ (s.tapePath = .closed → s.geom.head ≠ none →
          t.seq.transport = .threading ∧ t.tension.threadingTimer = true ∧ t.geom.head = s.geom.head
            ∧ (∀ r, (t.geom.est.get r).c = (s.geom.est.get r).c ∧ (t.geom.est.get r).mode = (s.geom.est.get r).mode)
            ∧ t.seq.outputs = { driveEnable := true, brakesReleased := true, pinchDown := false, lifterOut := false,
                                grant := false }
            ∧ t.arb = { s.arb with
                active := some
                  { kind := .clearFault, source := .panel, level := paramOf s.ports.params Param.panelLevel } }
            ∧ t.map = s.map ∧ t.marks = s.marks ∧ t.ports = s.ports)
        ∧ (s.tapePath = .opened ∨ s.geom.head = none →
          t.seq.transport = .unthreaded ∧ t.geom.head = none ∧ t.map.spans = []
            ∧ t.arb = { s.arb with active := none, returns := [] }
            ∧ t.seq.outputs = { driveEnable := false, brakesReleased := false, pinchDown := false, lifterOut := false,
                                grant := false }))
    ∧ ∀ s : State,
      ((s.seq.transport = .threading ∨ s.seq.transport = .settling ∨ s.seq.transport = .stopped) →
        ∃ t, s.motion .panel .unthread = (t, .ok) ∧ t.seq.transport = .unthreading ∧ t.geom.head = s.geom.head
          ∧ t.arb = { s.arb with
              slot := none, active := some { kind := .unthread, source := .panel, level := s.portLevel .panel } }
          ∧ (∀ h, s.arb.slot = some h → (t.ports.port h.port).has .pendingDropped = true)
          ∧ (s.arb.slot = none → t.ports = s.ports) ∧ t.marks = s.marks ∧ t.map = s.map ∧ t.due = s.due)
      ∧ (s.seq.transport.isMeasuring = true →
        ∃ t, s.motion .panel .unthread = (t, .ok) ∧ t.seq.transport = .measuring .creepStop
          ∧ t.seq.restDest = some .unthreading ∧ t.geom = s.geom ∧ t.ports = s.ports ∧ t.marks = s.marks
          ∧ t.due = s.due
          ∧ t.arb = { s.arb with
              active := some { kind := .unthread, source := .panel, level := s.portLevel .panel } })
      ∧ ∀ m, s.arb.active = some m →
        ((s.seq.transport.watchesLeader = true ∨ (∃ p, s.seq.transport = .locate p)
            ∨ (s.seq.transport = .halting ∧ s.arb.chase ≠ .starting)) →
          (m.source ≠ .panel → s.portLevel .panel ≤ m.level → s.motion .panel .unthread = (s, .busy))
          ∧ (m.source = .panel ∨ m.level < s.portLevel .panel →
            ∃ t, s.motion .panel .unthread = (t, .ok) ∧ t.seq.transport = .halting
              ∧ t.seq.restDest = some .unthreading ∧ t.speed.vRef = s.speed.vRef ∧ t.marks = s.marks
              ∧ t.due = s.due ∧ (m.source = .panel → t.ports = s.ports)
              ∧ (m.source ≠ .panel → ∀ p, (t.ports.port p).has .preempted = true)
              ∧ (s.seq.transport = .halting → t.speed = s.speed)
              ∧ t.arb = { s.arb with
                  active := some { kind := .unthread, source := .panel, level := s.portLevel .panel } }))
        ∧ (∀ p, s.seq.transport = .chase p → s.arb.chase ≠ .waiting → m.level < s.portLevel .panel →
          ∃ t, s.motion .panel .unthread = (t, .ok) ∧ (∀ k, (t.ports.port k).has .chaseBroken = true)
            ∧ (p = .parked → s.speed.vRef = 0 → t.seq.transport = .unthreading)
            ∧ (p ≠ .parked ∨ s.speed.vRef ≠ 0 →
              t.seq.transport = .halting ∧ t.seq.restDest = some .unthreading)
            ∧ t.seq.outputs.grant = false ∧ t.marks = s.marks ∧ t.geom.head = s.geom.head ∧ t.due = s.due
            ∧ t.arb = { s.arb with
                slot := none
                chase := if s.arb.chaseLine then .spent else .idle
                active := some { kind := .unthread, source := .panel, level := s.portLevel .panel } })

/-- A motion request replaces its own source's motion, preempts a lower level, breaks a lower chase, waits behind it or is BUSY (R88, R90, R73, R71, R178, R47, R91, R93, R100, R171, R95, R89).
The clauses on CHASE hold in a release with the protocol IDLE too (log entry 15). The error kept in a locate result is
the last one evaluated in the whole locate (log entry 23), and its head length reads 0 where none is defined (log
entry 28). Each start raises the level catch while the external stop line is asserted in LEVEL mode (log entries 3 and
14). -/
def Obligations.MotionJudgedAgainstMotionOrChase : Prop :=
  (∀ (port : Port) (v : Int) (m : Motion) (s : State), s.seq.transport.watchesLeader = true → s.arb.active = some m →
    s.arb.chase ≠ .waiting → paramOf s.ports.params Param.lockoutLevel ≤ s.portLevel port →
    (m.source ≠ port.source → s.portLevel port ≤ m.level → s.motion port (.wind v) = (s, .busy))
    ∧ ((m.source = port.source ∨ m.level < s.portLevel port) →
      ∃ t, s.motion port (.wind v) = (t, .ok) ∧ t.seq.transport = .wind ∧ t.speed.requested = v
        ∧ t.arb.active = some { kind := .wind, source := port.source, level := s.portLevel port }
        ∧ t.speed.vRef = s.speed.vRef ∧ t.arb.returns = s.arb.returns ∧ t.arb.slot = s.arb.slot
        ∧ (m.source = port.source → t.ports = s.ports)
        ∧ (m.source ≠ port.source → ∀ p, (t.ports.port p).has .preempted = true)
        ∧ t.geom.head = s.geom.head ∧ t.marks = s.marks ∧ t.prot = s.prot
        ∧ t.due = s.due ++
            (if s.prot.extStop = true ∧ paramOf s.ports.params Param.extStopMode = 0 then [.extStopCatch] else [])))
    ∧ (∀ (port : Port) (v : Int) (m : Motion) (s : State), s.seq.transport.watchesLeader = true →
      s.arb.active = some m → m.source = port.source → s.arb.chase = .waiting →
      paramOf s.ports.params Param.lockoutLevel ≤ s.portLevel port →
      paramOf s.ports.params Param.lockoutLevel ≤ paramOf s.ports.params Param.chaseLevel →
      ∃ t, s.motion port (.wind v) = (t, .ok) ∧ t.speed.vRef = s.speed.vRef ∧ t.marks = s.marks
        ∧ t.due = s.due ++
            (if s.prot.extStop = true ∧ paramOf s.ports.params Param.extStopMode = 0 then [.extStopCatch] else [])
        ∧ (s.portLevel port < paramOf s.ports.params Param.chaseLevel →
          t.seq.transport = .halting ∧ t.seq.restDest = some .chaseParked
            ∧ (∀ p, (t.ports.port p).has .preempted = true)
            ∧ t.arb = { s.arb with
                chase := .starting
                active := some { kind := .stop, source := .chase, level := paramOf s.ports.params Param.chaseLevel } })
        ∧ (paramOf s.ports.params Param.chaseLevel ≤ s.portLevel port →
          t.seq.transport = .wind ∧ t.speed.requested = v ∧ t.ports = s.ports
            ∧ t.arb = { s.arb with
                active := some { kind := .wind, source := port.source, level := s.portLevel port } }))
    ∧ ∀ (req : MotionReq) (kind : MotionKind) (next : Transport) (driven : Prop) (m : Motion) (s : State),
      s.arb.active = some m → s.arb.chase ≠ .waiting →
      (driven ↔ s.seq.transport = .chase .rolling ∨ s.seq.transport = .chase (.locating .approach)
        ∨ s.seq.transport = .chase (.locating .verify)
        ∨ ((s.seq.transport = .chase .releasing ∨ s.seq.transport = .halting) ∧ s.speed.kind = some .capstan)) →
      ((req = .play ∧ kind = .play ∧ (driven → next = .play .running) ∧ (¬driven → next = .play .braking))
        ∨ (∃ v, req = .wind v ∧ kind = .wind ∧ next = .wind)
        ∨ (∃ v, req = .shuttle v ∧ kind = .shuttle ∧ next = .shuttle)) →
      paramOf s.ports.params Param.lockoutLevel ≤ s.portLevel .panel →
      (s.seq.transport.isChase = true ∨ (s.seq.transport = .halting ∧ s.arb.chase = .starting)) →
      (s.portLevel .panel ≤ m.level →
        (s.seq.transport = .halting → s.motion .panel req = (s, .busy))
        ∧ (s.seq.transport.isChase = true →
          ∃ t, s.motion .panel req = (t, .pending) ∧ t.arb = { s.arb with slot := some ⟨req, .panel, none⟩ }
            ∧ t = { s with arb := t.arb, ports := t.ports } ∧ (s.arb.slot = none → t.ports = s.ports)
            ∧ ∀ h, s.arb.slot = some h → (t.ports.port h.port).has .pendingDropped = true))
      ∧ (m.level < s.portLevel .panel →
        ∃ t, s.motion .panel req = (t, .ok) ∧ t.seq.transport = next ∧ t.seq.outputs.grant = false
          ∧ (∀ v, req = .wind v ∨ req = .shuttle v → t.speed.requested = v)
          ∧ t.speed.vRef = s.speed.vRef ∧ t.locate.active = none
          ∧ t.arb = { s.arb with
              active := some { kind := kind, source := .panel, level := s.portLevel .panel }
              chase := if s.arb.chaseLine then .spent else .idle
              slot := none }
          ∧ (∀ p, (t.ports.port p).has .chaseBroken = true)
          ∧ (∀ h, s.arb.slot = some h → (t.ports.port h.port).has .pendingDropped = true)
          ∧ t.geom.head = s.geom.head ∧ t.marks = s.marks ∧ t.prot = s.prot
          ∧ t.due = s.due ++
              (if s.prot.extStop = true ∧ paramOf s.ports.params Param.extStopMode = 0 then [.extStopCatch] else [])
          ∧ ∀ r, s.locate.active = some r →
            t.locate.result = some
              { target := r.target, outcome := .broken, retries := r.retries,
                head := s.geom.head.getD 0, error := r.lastError })

/-- PLAY, SHUTTLE, LOCATE_ADDRESS and LOCATE_MARK start in the phase their rules choose (R71, R72, R73, R84, R88, R154, R156, R157, R158, R159, R178, R134).
Where the aim is extrapolated it is stored unclamped (log entry 31). Each start raises the level catch while the
external stop line is asserted in LEVEL mode (log entries 3 and 14). -/
def Obligations.MotionsStartInTheirFirstPhase : Prop :=
  ∀ (port : Port) (driven : Prop) (s : State) (caught : List Due), s.arb.chase ≠ .waiting →
    caught = (if s.prot.extStop = true ∧ paramOf s.ports.params Param.extStopMode = 0 then [.extStopCatch] else []) →
    paramOf s.ports.params Param.lockoutLevel ≤ s.portLevel port →
    (s.seq.transport = .stopped
      ∨ ((s.seq.transport.watchesLeader = true ∨ (∃ p, s.seq.transport = .locate p)
          ∨ (s.seq.transport = .halting ∧ s.arb.chase ≠ .starting))
        ∧ ∃ m, s.arb.active = some m ∧ (m.source = port.source ∨ m.level < s.portLevel port))) →
    (driven ↔ s.seq.transport = .play .engage ∨ s.seq.transport = .play .running ∨ s.seq.transport = .locate .approach
      ∨ s.seq.transport = .locate .verify
      ∨ ((s.seq.transport = .play .braking ∨ s.seq.transport = .halting) ∧ s.speed.kind = some .capstan)) →
    (∃ t, s.motion port .play = (t, .ok)
      ∧ ((∃ p, s.seq.transport = .play p) → (∃ m, s.arb.active = some m ∧ m.source = port.source) →
        t.seq = s.seq ∧ t.speed = s.speed)
      ∧ (((∀ p, s.seq.transport ≠ .play p) ∨ ∀ m, s.arb.active = some m → m.source ≠ port.source) →
        (driven → t.seq.transport = .play .running ∧ t.speed.loop = s.speed.loop ∧ t.seq.outputs.pinchDown = true)
        ∧ (¬driven → t.seq.transport = .play .braking))
      ∧ t.arb = { s.arb with active := some { kind := .play, source := port.source, level := s.portLevel port } }
      ∧ t.speed.vRef = s.speed.vRef ∧ t.locate.active = none ∧ t.marks = s.marks ∧ t.geom.head = s.geom.head
      ∧ t.due = s.due ++ caught)
    ∧ (∀ v, ∃ t, s.motion port (.shuttle v) = (t, .ok) ∧ t.seq.transport = .shuttle ∧ t.speed.requested = v
      ∧ t.seq.outputs.lifterOut = true ∧ t.seq.outputs.pinchDown = false
      ∧ t.arb = { s.arb with active := some { kind := .shuttle, source := port.source, level := s.portLevel port } }
      ∧ t.speed.vRef = s.speed.vRef ∧ t.locate.active = none ∧ t.marks = s.marks ∧ t.geom.head = s.geom.head
      ∧ t.due = s.due ++ caught)
    ∧ (∀ n : Nat, n ≤ 127 → markAt s.marks n = none → s.motion port (.locateMark n) = (s, .noSuchMark))
    ∧ ∀ (req : MotionReq) (target : LocateTarget) (a : Int),
      (req = .locateAddress a ∧ target = .address a ∧ 0 ≤ a ∧ a ≤ 16777215)
        ∨ (∃ (n : Nat) (m : Mark), req = .locateMark n ∧ n ≤ 127 ∧ markAt s.marks n = some m ∧ target = .mark n
          ∧ a = m.address ∧ MarksResolved s) →
      (s.map.spans = [] → s.motion port req = (s, .noMap))
      ∧ ∀ h, s.geom.head = some h → s.map.spans ≠ [] →
        ∃ (t : State) (r : LocateRecord), s.motion port req = (t, .ok) ∧ t.locate.active = some r
          ∧ r.target = target ∧ r.targetAddr = some a ∧ r.retries = 0 ∧ r.newest = none ∧ r.lastError = none
          ∧ (r.limit : Int) = max 0 (paramOf s.ports.params Param.retryLimit)
          ∧ r.stopPoint = max (-8388608) (min 8388607 (r.aim + r.offset))
          ∧ (target = .address a → r.offset = -paramOf s.ports.params Param.parkOffset
            ∧ (∀ p, s.map.spans.filter (fun p => p.hasAddress a) = [p] →
              r.aim = p.startLen + roundDiv ((a - p.startAddr) * p.pitch) 1024 ∧ r.targetState = some .inMap)
            ∧ (∀ ls : List Int, ls = (s.map.spans.filter (fun p => p.hasAddress a)).map
                  (fun p => p.startLen + roundDiv ((a - p.startAddr) * p.pitch) 1024) → 2 ≤ ls.length →
              r.targetState = some .inMap ∧ r.aim ∈ ls ∧ ∀ l ∈ ls, mag (r.aim - h) ≤ mag (l - h)
                ∧ (mag (r.aim - h) = mag (l - h) → r.aim ≤ l))
            ∧ (s.map.spans.filter (fun p => p.hasAddress a) = [] → ∀ p, nearestSpan s.map.spans a = some p →
              r.aim = p.startLen + roundDiv ((a - p.startAddr) * p.pitch) 1024 ∧ r.targetState = some .notInMap))
          ∧ (∀ n m, target = .mark n → markAt s.marks n = some m →
            r.offset = m.trim - paramOf s.ports.params Param.parkOffset
            ∧ (∀ k l, m.resolution = .resolved k l ∨ m.resolution = .confirmed k l →
              r.aim = l ∧ r.targetState = some .inMap)
            ∧ (∀ ns, m.resolution = .ambiguous ns → ∀ ls : List Int,
              ls = (m.candidateLengths s.map.spans).map (fun c => c.2) →
              r.targetState = some .inMap ∧ r.aim ∈ ls ∧ ∀ l ∈ ls, mag (r.aim - h) ≤ mag (l - h)
                ∧ (mag (r.aim - h) = mag (l - h) → r.aim ≤ l))
            ∧ (m.resolution = .unresolved → ∀ p, nearestSpan s.map.spans a = some p →
              r.aim = p.startLen + roundDiv ((a - p.startAddr) * p.pitch) 1024 ∧ r.targetState = some .notInMap))
          ∧ (∀ first : Prop, (first ↔ r.stopPoint - paramOf s.ports.params Param.approachDistance ≤ h ∧ h ≤ r.stopPoint
              ∧ (s.speed.vRef = 0 ∨ (0 < s.speed.vRef ∧ driven))) →
            (first → t.seq.transport = .locate .approach ∧ t.speed.stopPoint = some r.stopPoint)
            ∧ (¬first → t.seq.transport = .locate .travel
              ∧ t.speed.stopPoint = some (r.stopPoint - paramOf s.ports.params Param.approachDistance)))
          ∧ t.arb.active = some { kind := .locate, source := port.source, level := s.portLevel port }
          ∧ t.speed.vRef = s.speed.vRef ∧ t.marks = s.marks ∧ t.geom.head = s.geom.head
          ∧ t.due = s.due ++ caught

/-- STOP halts its own source's motion and changes nothing in STOPPED or HALTING (R64, R75, R51, R62, R84, R87, R178).
In STOPPED and in HALTING it is answered OK without effect, whatever the port and its level; that this holds in the
halt of a STARTING chase too, for a panel STOP above the record's level, is the model's reading of R64, R75 and R87
beside R100 (log entry 13). A STOP never raises the level catch of R178 (log entries 3 and 14). -/
def Obligations.StopHaltsAMovingTransport : Prop :=
  ∀ (port : Port) (s : State), paramOf s.ports.params Param.lockoutLevel ≤ s.portLevel port →
    (s.seq.transport = .stopped ∨ s.seq.transport = .halting →
      s.motion port .stop = (s, .ok))
    ∧ (∀ m, s.seq.transport.watchesLeader = true → s.arb.active = some m → m.source = port.source →
      s.arb.chase ≠ .waiting →
      ∃ t k, s.motion port .stop = (t, .ok) ∧ t.seq.transport = .halting ∧ t.seq.restDest = some .stopped
        ∧ k = (if s.speed.vRef = 0 then DecelKind.atRest
            else if s.speed.mode = .capstan ∨ (s.speed.mode = .deceleration ∧ s.speed.kind = some .capstan)
            then .capstan else .reel)
        ∧ t.speed.kind = some k ∧ t.speed.vRef = s.speed.vRef
        ∧ t.seq.outputs = { driveEnable := true, brakesReleased := true, pinchDown := k == .capstan,
                            lifterOut := k == .capstan, grant := false }
        ∧ t.arb = { s.arb with active := some { kind := .stop, source := port.source, level := s.portLevel port } }
        ∧ t.ports = s.ports ∧ t.geom.head = s.geom.head ∧ t.marks = s.marks ∧ t.due = s.due)

/-- In SETTLING a motion request waits in the pending slot, and the newest drops the older (R86, R91, R93). -/
def Obligations.SettlingHoldsNewestRequest : Prop :=
  ∀ (port : Port) (req : MotionReq) (s : State), s.seq.transport = .settling →
    paramOf s.ports.params Param.lockoutLevel ≤ s.portLevel port →
    ∀ ports : PortUnit,
      ports = (match s.arb.slot with
        | none => s.ports
        | some h => match h.port with
          | .panel => { s.ports with panel := { s.ports.panel with flags := s.ports.panel.flags ||| 2048#13 } }
          | .studio => { s.ports with studio := { s.ports.studio with flags := s.ports.studio.flags ||| 2048#13 } }) →
      (req = .play ∨ (∃ v, req = .wind v) ∨ (∃ v, req = .shuttle v)
          ∨ (∃ l, req = .locateLength l ∧ -8388608 ≤ l ∧ l ≤ 8388607) →
        s.motion port req
          = ({ s with arb := { s.arb with slot := some ⟨req, port, none⟩ }, ports := ports }, .pending))
      ∧ s.motion port .stop = ({ s with arb := { s.arb with slot := none }, ports := ports }, .ok)

/-- A locate from STOPPED pushes the head's place, and RETURN pops the newest entry as its target (R103, R104, R105, R173, R156). -/
def Obligations.ReturnListPushesAndPops : Prop :=
  ∀ (port : Port) (h : Int) (s : State), s.seq.transport = .stopped → s.geom.head = some h →
    s.arb.chase ≠ .waiting → s.arb.active = none → paramOf s.ports.params Param.lockoutLevel ≤ s.portLevel port →
    (∀ l : Int, -8388608 ≤ l → l ≤ 8388607 →
      ∃ t, s.motion port (.locateLength l) = (t, .ok)
        ∧ t.arb.returns
            = { length := h, address := headAddress s.map.spans (some h) } :: s.arb.returns.take 15
        ∧ (16 ≤ s.arb.returns.length → ∀ p, (t.ports.port p).has .returnWrapped = true)
        ∧ (s.arb.returns.length < 16 → t.ports = s.ports)
        ∧ t.seq.transport = .locate .travel
        ∧ (∃ r, t.locate.active = some r ∧ r.target = .length l ∧ r.retries = 0
          ∧ r.stopPoint = clampTo (-8388608) 8388607 (l + -paramOf s.ports.params Param.parkOffset)
          ∧ t.speed.stopPoint = some r.stopPoint)
        ∧ t.arb.active = some { kind := .locate, source := port.source, level := s.portLevel port })
    ∧ (s.arb.returns = [] → s.motion port .returnBack = (s, .empty))
    ∧ ∀ e rest, s.arb.returns = e :: rest →
      ∃ t, s.motion port .returnBack = (t, .ok) ∧ t.arb.returns = rest
        ∧ ∃ r, t.locate.active = some r ∧ r.target = .returnTo e ∧ r.aim = e.length ∧ r.offset = 0
end

