-- ==== Sys2Proof/Laws/State.lean ====
section
/-! SUPPORT. What each named update of the state leaves as it was, field by field, and what it writes. -/

namespace Sys2Proof.Machine

variable (s : State)

/-! ### `State.onPort` -/

@[simp] theorem onPort_geom (p : Port) (f : PortState → PortState) : (s.onPort p f).geom = s.geom := rfl
@[simp] theorem onPort_tension (p : Port) (f : PortState → PortState) : (s.onPort p f).tension = s.tension := rfl
@[simp] theorem onPort_speed (p : Port) (f : PortState → PortState) : (s.onPort p f).speed = s.speed := rfl
@[simp] theorem onPort_seq (p : Port) (f : PortState → PortState) : (s.onPort p f).seq = s.seq := rfl
@[simp] theorem onPort_arb (p : Port) (f : PortState → PortState) : (s.onPort p f).arb = s.arb := rfl
@[simp] theorem onPort_map (p : Port) (f : PortState → PortState) : (s.onPort p f).map = s.map := rfl
@[simp] theorem onPort_marks (p : Port) (f : PortState → PortState) : (s.onPort p f).marks = s.marks := rfl
@[simp] theorem onPort_locate (p : Port) (f : PortState → PortState) : (s.onPort p f).locate = s.locate := rfl
@[simp] theorem onPort_prot (p : Port) (f : PortState → PortState) : (s.onPort p f).prot = s.prot := rfl
@[simp] theorem onPort_tapePath (p : Port) (f : PortState → PortState) : (s.onPort p f).tapePath = s.tapePath := rfl
@[simp] theorem onPort_due (p : Port) (f : PortState → PortState) : (s.onPort p f).due = s.due := rfl
@[simp] theorem onPort_draws (p : Port) (f : PortState → PortState) : (s.onPort p f).draws = s.draws := rfl
@[simp] theorem onPort_pending (p : Port) (f : PortState → PortState) : (s.onPort p f).pending = s.pending := rfl

/-! ### `State.raiseOn` -/

@[simp] theorem raiseOn_geom (p : Port) (f : Flag) : (s.raiseOn p f).geom = s.geom := rfl
@[simp] theorem raiseOn_tension (p : Port) (f : Flag) : (s.raiseOn p f).tension = s.tension := rfl
@[simp] theorem raiseOn_speed (p : Port) (f : Flag) : (s.raiseOn p f).speed = s.speed := rfl
@[simp] theorem raiseOn_seq (p : Port) (f : Flag) : (s.raiseOn p f).seq = s.seq := rfl
@[simp] theorem raiseOn_arb (p : Port) (f : Flag) : (s.raiseOn p f).arb = s.arb := rfl
@[simp] theorem raiseOn_map (p : Port) (f : Flag) : (s.raiseOn p f).map = s.map := rfl
@[simp] theorem raiseOn_marks (p : Port) (f : Flag) : (s.raiseOn p f).marks = s.marks := rfl
@[simp] theorem raiseOn_locate (p : Port) (f : Flag) : (s.raiseOn p f).locate = s.locate := rfl
@[simp] theorem raiseOn_prot (p : Port) (f : Flag) : (s.raiseOn p f).prot = s.prot := rfl
@[simp] theorem raiseOn_tapePath (p : Port) (f : Flag) : (s.raiseOn p f).tapePath = s.tapePath := rfl
@[simp] theorem raiseOn_due (p : Port) (f : Flag) : (s.raiseOn p f).due = s.due := rfl
@[simp] theorem raiseOn_draws (p : Port) (f : Flag) : (s.raiseOn p f).draws = s.draws := rfl
@[simp] theorem raiseOn_pending (p : Port) (f : Flag) : (s.raiseOn p f).pending = s.pending := rfl

/-! ### `State.raise` -/

@[simp] theorem raise_geom (f : Flag) : (s.raise f).geom = s.geom := rfl
@[simp] theorem raise_tension (f : Flag) : (s.raise f).tension = s.tension := rfl
@[simp] theorem raise_speed (f : Flag) : (s.raise f).speed = s.speed := rfl
@[simp] theorem raise_seq (f : Flag) : (s.raise f).seq = s.seq := rfl
@[simp] theorem raise_arb (f : Flag) : (s.raise f).arb = s.arb := rfl
@[simp] theorem raise_map (f : Flag) : (s.raise f).map = s.map := rfl
@[simp] theorem raise_marks (f : Flag) : (s.raise f).marks = s.marks := rfl
@[simp] theorem raise_locate (f : Flag) : (s.raise f).locate = s.locate := rfl
@[simp] theorem raise_prot (f : Flag) : (s.raise f).prot = s.prot := rfl
@[simp] theorem raise_tapePath (f : Flag) : (s.raise f).tapePath = s.tapePath := rfl
@[simp] theorem raise_due (f : Flag) : (s.raise f).due = s.due := rfl
@[simp] theorem raise_draws (f : Flag) : (s.raise f).draws = s.draws := rfl
@[simp] theorem raise_pending (f : Flag) : (s.raise f).pending = s.pending := rfl

/-! ### `State.raiseIf` -/

@[simp] theorem raiseIf_geom (b : Bool) (f : Flag) : (s.raiseIf b f).geom = s.geom := by unfold State.raiseIf; split <;> rfl
@[simp] theorem raiseIf_tension (b : Bool) (f : Flag) : (s.raiseIf b f).tension = s.tension := by unfold State.raiseIf; split <;> rfl
@[simp] theorem raiseIf_speed (b : Bool) (f : Flag) : (s.raiseIf b f).speed = s.speed := by unfold State.raiseIf; split <;> rfl
@[simp] theorem raiseIf_seq (b : Bool) (f : Flag) : (s.raiseIf b f).seq = s.seq := by unfold State.raiseIf; split <;> rfl
@[simp] theorem raiseIf_arb (b : Bool) (f : Flag) : (s.raiseIf b f).arb = s.arb := by unfold State.raiseIf; split <;> rfl
@[simp] theorem raiseIf_map (b : Bool) (f : Flag) : (s.raiseIf b f).map = s.map := by unfold State.raiseIf; split <;> rfl
@[simp] theorem raiseIf_marks (b : Bool) (f : Flag) : (s.raiseIf b f).marks = s.marks := by unfold State.raiseIf; split <;> rfl
@[simp] theorem raiseIf_locate (b : Bool) (f : Flag) : (s.raiseIf b f).locate = s.locate := by unfold State.raiseIf; split <;> rfl
@[simp] theorem raiseIf_prot (b : Bool) (f : Flag) : (s.raiseIf b f).prot = s.prot := by unfold State.raiseIf; split <;> rfl
@[simp] theorem raiseIf_tapePath (b : Bool) (f : Flag) : (s.raiseIf b f).tapePath = s.tapePath := by unfold State.raiseIf; split <;> rfl
@[simp] theorem raiseIf_due (b : Bool) (f : Flag) : (s.raiseIf b f).due = s.due := by unfold State.raiseIf; split <;> rfl
@[simp] theorem raiseIf_draws (b : Bool) (f : Flag) : (s.raiseIf b f).draws = s.draws := by unfold State.raiseIf; split <;> rfl
@[simp] theorem raiseIf_pending (b : Bool) (f : Flag) : (s.raiseIf b f).pending = s.pending := by unfold State.raiseIf; split <;> rfl

/-! ### `State.readSwitch` -/

@[simp] theorem readSwitch_geom (w : Switch) : (s.readSwitch w).geom = s.geom := rfl
@[simp] theorem readSwitch_tension (w : Switch) : (s.readSwitch w).tension = s.tension := rfl
@[simp] theorem readSwitch_speed (w : Switch) : (s.readSwitch w).speed = s.speed := rfl
@[simp] theorem readSwitch_seq (w : Switch) : (s.readSwitch w).seq = s.seq := rfl
@[simp] theorem readSwitch_arb (w : Switch) : (s.readSwitch w).arb = s.arb := rfl
@[simp] theorem readSwitch_map (w : Switch) : (s.readSwitch w).map = s.map := rfl
@[simp] theorem readSwitch_marks (w : Switch) : (s.readSwitch w).marks = s.marks := rfl
@[simp] theorem readSwitch_locate (w : Switch) : (s.readSwitch w).locate = s.locate := rfl
@[simp] theorem readSwitch_prot (w : Switch) : (s.readSwitch w).prot = s.prot := rfl
@[simp] theorem readSwitch_ports (w : Switch) : (s.readSwitch w).ports = s.ports := rfl
@[simp] theorem readSwitch_due (w : Switch) : (s.readSwitch w).due = s.due := rfl
@[simp] theorem readSwitch_draws (w : Switch) : (s.readSwitch w).draws = s.draws := rfl
@[simp] theorem readSwitch_pending (w : Switch) : (s.readSwitch w).pending = s.pending := rfl

/-! ### `State.setActive` -/

@[simp] theorem setActive_geom (m : Option Motion) : (s.setActive m).geom = s.geom := rfl
@[simp] theorem setActive_tension (m : Option Motion) : (s.setActive m).tension = s.tension := rfl
@[simp] theorem setActive_speed (m : Option Motion) : (s.setActive m).speed = s.speed := rfl
@[simp] theorem setActive_seq (m : Option Motion) : (s.setActive m).seq = s.seq := rfl
@[simp] theorem setActive_map (m : Option Motion) : (s.setActive m).map = s.map := rfl
@[simp] theorem setActive_marks (m : Option Motion) : (s.setActive m).marks = s.marks := rfl
@[simp] theorem setActive_locate (m : Option Motion) : (s.setActive m).locate = s.locate := rfl
@[simp] theorem setActive_prot (m : Option Motion) : (s.setActive m).prot = s.prot := rfl
@[simp] theorem setActive_ports (m : Option Motion) : (s.setActive m).ports = s.ports := rfl
@[simp] theorem setActive_tapePath (m : Option Motion) : (s.setActive m).tapePath = s.tapePath := rfl
@[simp] theorem setActive_due (m : Option Motion) : (s.setActive m).due = s.due := rfl
@[simp] theorem setActive_draws (m : Option Motion) : (s.setActive m).draws = s.draws := rfl
@[simp] theorem setActive_pending (m : Option Motion) : (s.setActive m).pending = s.pending := rfl

/-! ### `State.setRecord` -/

@[simp] theorem setRecord_geom (m : Motion) : (s.setRecord m).geom = s.geom := rfl
@[simp] theorem setRecord_tension (m : Motion) : (s.setRecord m).tension = s.tension := rfl
@[simp] theorem setRecord_speed (m : Motion) : (s.setRecord m).speed = s.speed := rfl
@[simp] theorem setRecord_seq (m : Motion) : (s.setRecord m).seq = s.seq := rfl
@[simp] theorem setRecord_map (m : Motion) : (s.setRecord m).map = s.map := rfl
@[simp] theorem setRecord_marks (m : Motion) : (s.setRecord m).marks = s.marks := rfl
@[simp] theorem setRecord_locate (m : Motion) : (s.setRecord m).locate = s.locate := rfl
@[simp] theorem setRecord_prot (m : Motion) : (s.setRecord m).prot = s.prot := rfl
@[simp] theorem setRecord_ports (m : Motion) : (s.setRecord m).ports = s.ports := rfl
@[simp] theorem setRecord_tapePath (m : Motion) : (s.setRecord m).tapePath = s.tapePath := rfl
@[simp] theorem setRecord_due (m : Motion) : (s.setRecord m).due = s.due := rfl
@[simp] theorem setRecord_draws (m : Motion) : (s.setRecord m).draws = s.draws := rfl
@[simp] theorem setRecord_pending (m : Motion) : (s.setRecord m).pending = s.pending := rfl

/-! ### `State.recordStop` -/

@[simp] theorem recordStop_geom : (s.recordStop).geom = s.geom := rfl
@[simp] theorem recordStop_tension : (s.recordStop).tension = s.tension := rfl
@[simp] theorem recordStop_speed : (s.recordStop).speed = s.speed := rfl
@[simp] theorem recordStop_seq : (s.recordStop).seq = s.seq := rfl
@[simp] theorem recordStop_map : (s.recordStop).map = s.map := rfl
@[simp] theorem recordStop_marks : (s.recordStop).marks = s.marks := rfl
@[simp] theorem recordStop_locate : (s.recordStop).locate = s.locate := rfl
@[simp] theorem recordStop_prot : (s.recordStop).prot = s.prot := rfl
@[simp] theorem recordStop_ports : (s.recordStop).ports = s.ports := rfl
@[simp] theorem recordStop_tapePath : (s.recordStop).tapePath = s.tapePath := rfl
@[simp] theorem recordStop_due : (s.recordStop).due = s.due := rfl
@[simp] theorem recordStop_draws : (s.recordStop).draws = s.draws := rfl
@[simp] theorem recordStop_pending : (s.recordStop).pending = s.pending := rfl

/-! ### `State.setSlot` -/

@[simp] theorem setSlot_geom (h : Option Held) : (s.setSlot h).geom = s.geom := rfl
@[simp] theorem setSlot_tension (h : Option Held) : (s.setSlot h).tension = s.tension := rfl
@[simp] theorem setSlot_speed (h : Option Held) : (s.setSlot h).speed = s.speed := rfl
@[simp] theorem setSlot_seq (h : Option Held) : (s.setSlot h).seq = s.seq := rfl
@[simp] theorem setSlot_map (h : Option Held) : (s.setSlot h).map = s.map := rfl
@[simp] theorem setSlot_marks (h : Option Held) : (s.setSlot h).marks = s.marks := rfl
@[simp] theorem setSlot_locate (h : Option Held) : (s.setSlot h).locate = s.locate := rfl
@[simp] theorem setSlot_prot (h : Option Held) : (s.setSlot h).prot = s.prot := rfl
@[simp] theorem setSlot_ports (h : Option Held) : (s.setSlot h).ports = s.ports := rfl
@[simp] theorem setSlot_tapePath (h : Option Held) : (s.setSlot h).tapePath = s.tapePath := rfl
@[simp] theorem setSlot_due (h : Option Held) : (s.setSlot h).due = s.due := rfl
@[simp] theorem setSlot_draws (h : Option Held) : (s.setSlot h).draws = s.draws := rfl
@[simp] theorem setSlot_pending (h : Option Held) : (s.setSlot h).pending = s.pending := rfl

/-! ### `State.setChase` -/

@[simp] theorem setChase_geom (c : ChaseState) : (s.setChase c).geom = s.geom := rfl
@[simp] theorem setChase_tension (c : ChaseState) : (s.setChase c).tension = s.tension := rfl
@[simp] theorem setChase_speed (c : ChaseState) : (s.setChase c).speed = s.speed := rfl
@[simp] theorem setChase_seq (c : ChaseState) : (s.setChase c).seq = s.seq := rfl
@[simp] theorem setChase_map (c : ChaseState) : (s.setChase c).map = s.map := rfl
@[simp] theorem setChase_marks (c : ChaseState) : (s.setChase c).marks = s.marks := rfl
@[simp] theorem setChase_locate (c : ChaseState) : (s.setChase c).locate = s.locate := rfl
@[simp] theorem setChase_prot (c : ChaseState) : (s.setChase c).prot = s.prot := rfl
@[simp] theorem setChase_ports (c : ChaseState) : (s.setChase c).ports = s.ports := rfl
@[simp] theorem setChase_tapePath (c : ChaseState) : (s.setChase c).tapePath = s.tapePath := rfl
@[simp] theorem setChase_due (c : ChaseState) : (s.setChase c).due = s.due := rfl
@[simp] theorem setChase_draws (c : ChaseState) : (s.setChase c).draws = s.draws := rfl
@[simp] theorem setChase_pending (c : ChaseState) : (s.setChase c).pending = s.pending := rfl

/-! ### `State.setChaseLine` -/

@[simp] theorem setChaseLine_geom (b : Bool) : (s.setChaseLine b).geom = s.geom := rfl
@[simp] theorem setChaseLine_tension (b : Bool) : (s.setChaseLine b).tension = s.tension := rfl
@[simp] theorem setChaseLine_speed (b : Bool) : (s.setChaseLine b).speed = s.speed := rfl
@[simp] theorem setChaseLine_seq (b : Bool) : (s.setChaseLine b).seq = s.seq := rfl
@[simp] theorem setChaseLine_map (b : Bool) : (s.setChaseLine b).map = s.map := rfl
@[simp] theorem setChaseLine_marks (b : Bool) : (s.setChaseLine b).marks = s.marks := rfl
@[simp] theorem setChaseLine_locate (b : Bool) : (s.setChaseLine b).locate = s.locate := rfl
@[simp] theorem setChaseLine_prot (b : Bool) : (s.setChaseLine b).prot = s.prot := rfl
@[simp] theorem setChaseLine_ports (b : Bool) : (s.setChaseLine b).ports = s.ports := rfl
@[simp] theorem setChaseLine_tapePath (b : Bool) : (s.setChaseLine b).tapePath = s.tapePath := rfl
@[simp] theorem setChaseLine_due (b : Bool) : (s.setChaseLine b).due = s.due := rfl
@[simp] theorem setChaseLine_draws (b : Bool) : (s.setChaseLine b).draws = s.draws := rfl
@[simp] theorem setChaseLine_pending (b : Bool) : (s.setChaseLine b).pending = s.pending := rfl

/-! ### `State.setReturns` -/

@[simp] theorem setReturns_geom (rs : List ReturnEntry) : (s.setReturns rs).geom = s.geom := rfl
@[simp] theorem setReturns_tension (rs : List ReturnEntry) : (s.setReturns rs).tension = s.tension := rfl
@[simp] theorem setReturns_speed (rs : List ReturnEntry) : (s.setReturns rs).speed = s.speed := rfl
@[simp] theorem setReturns_seq (rs : List ReturnEntry) : (s.setReturns rs).seq = s.seq := rfl
@[simp] theorem setReturns_map (rs : List ReturnEntry) : (s.setReturns rs).map = s.map := rfl
@[simp] theorem setReturns_marks (rs : List ReturnEntry) : (s.setReturns rs).marks = s.marks := rfl
@[simp] theorem setReturns_locate (rs : List ReturnEntry) : (s.setReturns rs).locate = s.locate := rfl
@[simp] theorem setReturns_prot (rs : List ReturnEntry) : (s.setReturns rs).prot = s.prot := rfl
@[simp] theorem setReturns_ports (rs : List ReturnEntry) : (s.setReturns rs).ports = s.ports := rfl
@[simp] theorem setReturns_tapePath (rs : List ReturnEntry) : (s.setReturns rs).tapePath = s.tapePath := rfl
@[simp] theorem setReturns_due (rs : List ReturnEntry) : (s.setReturns rs).due = s.due := rfl
@[simp] theorem setReturns_draws (rs : List ReturnEntry) : (s.setReturns rs).draws = s.draws := rfl
@[simp] theorem setReturns_pending (rs : List ReturnEntry) : (s.setReturns rs).pending = s.pending := rfl

/-! ### `State.setLocate` -/

@[simp] theorem setLocate_geom (r : LocateRecord) : (s.setLocate r).geom = s.geom := rfl
@[simp] theorem setLocate_tension (r : LocateRecord) : (s.setLocate r).tension = s.tension := rfl
@[simp] theorem setLocate_speed (r : LocateRecord) : (s.setLocate r).speed = s.speed := rfl
@[simp] theorem setLocate_seq (r : LocateRecord) : (s.setLocate r).seq = s.seq := rfl
@[simp] theorem setLocate_arb (r : LocateRecord) : (s.setLocate r).arb = s.arb := rfl
@[simp] theorem setLocate_map (r : LocateRecord) : (s.setLocate r).map = s.map := rfl
@[simp] theorem setLocate_marks (r : LocateRecord) : (s.setLocate r).marks = s.marks := rfl
@[simp] theorem setLocate_prot (r : LocateRecord) : (s.setLocate r).prot = s.prot := rfl
@[simp] theorem setLocate_ports (r : LocateRecord) : (s.setLocate r).ports = s.ports := rfl
@[simp] theorem setLocate_tapePath (r : LocateRecord) : (s.setLocate r).tapePath = s.tapePath := rfl
@[simp] theorem setLocate_due (r : LocateRecord) : (s.setLocate r).due = s.due := rfl
@[simp] theorem setLocate_draws (r : LocateRecord) : (s.setLocate r).draws = s.draws := rfl
@[simp] theorem setLocate_pending (r : LocateRecord) : (s.setLocate r).pending = s.pending := rfl

/-! ### `State.endLocate` -/

@[simp] theorem endLocate_geom (o : LocateOutcome) : (s.endLocate o).geom = s.geom := by unfold State.endLocate; split <;> rfl
@[simp] theorem endLocate_tension (o : LocateOutcome) : (s.endLocate o).tension = s.tension := by unfold State.endLocate; split <;> rfl
@[simp] theorem endLocate_speed (o : LocateOutcome) : (s.endLocate o).speed = s.speed := by unfold State.endLocate; split <;> rfl
@[simp] theorem endLocate_seq (o : LocateOutcome) : (s.endLocate o).seq = s.seq := by unfold State.endLocate; split <;> rfl
@[simp] theorem endLocate_arb (o : LocateOutcome) : (s.endLocate o).arb = s.arb := by unfold State.endLocate; split <;> rfl
@[simp] theorem endLocate_map (o : LocateOutcome) : (s.endLocate o).map = s.map := by unfold State.endLocate; split <;> rfl
@[simp] theorem endLocate_marks (o : LocateOutcome) : (s.endLocate o).marks = s.marks := by unfold State.endLocate; split <;> rfl
@[simp] theorem endLocate_prot (o : LocateOutcome) : (s.endLocate o).prot = s.prot := by unfold State.endLocate; split <;> rfl
@[simp] theorem endLocate_ports (o : LocateOutcome) : (s.endLocate o).ports = s.ports := by unfold State.endLocate; split <;> rfl
@[simp] theorem endLocate_tapePath (o : LocateOutcome) : (s.endLocate o).tapePath = s.tapePath := by unfold State.endLocate; split <;> rfl
@[simp] theorem endLocate_due (o : LocateOutcome) : (s.endLocate o).due = s.due := by unfold State.endLocate; split <;> rfl
@[simp] theorem endLocate_draws (o : LocateOutcome) : (s.endLocate o).draws = s.draws := by unfold State.endLocate; split <;> rfl
@[simp] theorem endLocate_pending (o : LocateOutcome) : (s.endLocate o).pending = s.pending := by unfold State.endLocate; split <;> rfl

/-! ### `State.pulseLocated` -/

@[simp] theorem pulseLocated_geom (b : Bool) : (s.pulseLocated b).geom = s.geom := rfl
@[simp] theorem pulseLocated_tension (b : Bool) : (s.pulseLocated b).tension = s.tension := rfl
@[simp] theorem pulseLocated_speed (b : Bool) : (s.pulseLocated b).speed = s.speed := rfl
@[simp] theorem pulseLocated_seq (b : Bool) : (s.pulseLocated b).seq = s.seq := rfl
@[simp] theorem pulseLocated_arb (b : Bool) : (s.pulseLocated b).arb = s.arb := rfl
@[simp] theorem pulseLocated_map (b : Bool) : (s.pulseLocated b).map = s.map := rfl
@[simp] theorem pulseLocated_marks (b : Bool) : (s.pulseLocated b).marks = s.marks := rfl
@[simp] theorem pulseLocated_prot (b : Bool) : (s.pulseLocated b).prot = s.prot := rfl
@[simp] theorem pulseLocated_ports (b : Bool) : (s.pulseLocated b).ports = s.ports := rfl
@[simp] theorem pulseLocated_tapePath (b : Bool) : (s.pulseLocated b).tapePath = s.tapePath := rfl
@[simp] theorem pulseLocated_due (b : Bool) : (s.pulseLocated b).due = s.due := rfl
@[simp] theorem pulseLocated_draws (b : Bool) : (s.pulseLocated b).draws = s.draws := rfl
@[simp] theorem pulseLocated_pending (b : Bool) : (s.pulseLocated b).pending = s.pending := rfl

/-! ### `State.startVerifyTimer` -/

@[simp] theorem startVerifyTimer_geom : (s.startVerifyTimer).geom = s.geom := rfl
@[simp] theorem startVerifyTimer_tension : (s.startVerifyTimer).tension = s.tension := rfl
@[simp] theorem startVerifyTimer_speed : (s.startVerifyTimer).speed = s.speed := rfl
@[simp] theorem startVerifyTimer_seq : (s.startVerifyTimer).seq = s.seq := rfl
@[simp] theorem startVerifyTimer_arb : (s.startVerifyTimer).arb = s.arb := rfl
@[simp] theorem startVerifyTimer_map : (s.startVerifyTimer).map = s.map := rfl
@[simp] theorem startVerifyTimer_marks : (s.startVerifyTimer).marks = s.marks := rfl
@[simp] theorem startVerifyTimer_prot : (s.startVerifyTimer).prot = s.prot := rfl
@[simp] theorem startVerifyTimer_ports : (s.startVerifyTimer).ports = s.ports := rfl
@[simp] theorem startVerifyTimer_tapePath : (s.startVerifyTimer).tapePath = s.tapePath := rfl
@[simp] theorem startVerifyTimer_due : (s.startVerifyTimer).due = s.due := rfl
@[simp] theorem startVerifyTimer_draws : (s.startVerifyTimer).draws = s.draws := rfl
@[simp] theorem startVerifyTimer_pending : (s.startVerifyTimer).pending = s.pending := rfl

/-! ### `State.endPulse` -/

@[simp] theorem endPulse_geom : (s.endPulse).geom = s.geom := rfl
@[simp] theorem endPulse_tension : (s.endPulse).tension = s.tension := rfl
@[simp] theorem endPulse_speed : (s.endPulse).speed = s.speed := rfl
@[simp] theorem endPulse_seq : (s.endPulse).seq = s.seq := rfl
@[simp] theorem endPulse_arb : (s.endPulse).arb = s.arb := rfl
@[simp] theorem endPulse_map : (s.endPulse).map = s.map := rfl
@[simp] theorem endPulse_marks : (s.endPulse).marks = s.marks := rfl
@[simp] theorem endPulse_prot : (s.endPulse).prot = s.prot := rfl
@[simp] theorem endPulse_ports : (s.endPulse).ports = s.ports := rfl
@[simp] theorem endPulse_tapePath : (s.endPulse).tapePath = s.tapePath := rfl
@[simp] theorem endPulse_due : (s.endPulse).due = s.due := rfl
@[simp] theorem endPulse_draws : (s.endPulse).draws = s.draws := rfl
@[simp] theorem endPulse_pending : (s.endPulse).pending = s.pending := rfl

/-! ### `State.headToward` -/

@[simp] theorem headToward_geom (b : Bool) (l : Int) : (s.headToward b l).geom = s.geom := rfl
@[simp] theorem headToward_tension (b : Bool) (l : Int) : (s.headToward b l).tension = s.tension := rfl
@[simp] theorem headToward_seq (b : Bool) (l : Int) : (s.headToward b l).seq = s.seq := rfl
@[simp] theorem headToward_arb (b : Bool) (l : Int) : (s.headToward b l).arb = s.arb := rfl
@[simp] theorem headToward_map (b : Bool) (l : Int) : (s.headToward b l).map = s.map := rfl
@[simp] theorem headToward_marks (b : Bool) (l : Int) : (s.headToward b l).marks = s.marks := rfl
@[simp] theorem headToward_locate (b : Bool) (l : Int) : (s.headToward b l).locate = s.locate := rfl
@[simp] theorem headToward_prot (b : Bool) (l : Int) : (s.headToward b l).prot = s.prot := rfl
@[simp] theorem headToward_ports (b : Bool) (l : Int) : (s.headToward b l).ports = s.ports := rfl
@[simp] theorem headToward_tapePath (b : Bool) (l : Int) : (s.headToward b l).tapePath = s.tapePath := rfl
@[simp] theorem headToward_due (b : Bool) (l : Int) : (s.headToward b l).due = s.due := rfl
@[simp] theorem headToward_draws (b : Bool) (l : Int) : (s.headToward b l).draws = s.draws := rfl
@[simp] theorem headToward_pending (b : Bool) (l : Int) : (s.headToward b l).pending = s.pending := rfl

/-! ### `State.setRatio` -/

@[simp] theorem setRatio_geom (v : Int) : (s.setRatio v).geom = s.geom := rfl
@[simp] theorem setRatio_tension (v : Int) : (s.setRatio v).tension = s.tension := rfl
@[simp] theorem setRatio_seq (v : Int) : (s.setRatio v).seq = s.seq := rfl
@[simp] theorem setRatio_arb (v : Int) : (s.setRatio v).arb = s.arb := rfl
@[simp] theorem setRatio_map (v : Int) : (s.setRatio v).map = s.map := rfl
@[simp] theorem setRatio_marks (v : Int) : (s.setRatio v).marks = s.marks := rfl
@[simp] theorem setRatio_locate (v : Int) : (s.setRatio v).locate = s.locate := rfl
@[simp] theorem setRatio_prot (v : Int) : (s.setRatio v).prot = s.prot := rfl
@[simp] theorem setRatio_ports (v : Int) : (s.setRatio v).ports = s.ports := rfl
@[simp] theorem setRatio_tapePath (v : Int) : (s.setRatio v).tapePath = s.tapePath := rfl
@[simp] theorem setRatio_due (v : Int) : (s.setRatio v).due = s.due := rfl
@[simp] theorem setRatio_draws (v : Int) : (s.setRatio v).draws = s.draws := rfl
@[simp] theorem setRatio_pending (v : Int) : (s.setRatio v).pending = s.pending := rfl

/-! ### `State.setRequested` -/

@[simp] theorem setRequested_geom (v : Int) : (s.setRequested v).geom = s.geom := rfl
@[simp] theorem setRequested_tension (v : Int) : (s.setRequested v).tension = s.tension := rfl
@[simp] theorem setRequested_seq (v : Int) : (s.setRequested v).seq = s.seq := rfl
@[simp] theorem setRequested_arb (v : Int) : (s.setRequested v).arb = s.arb := rfl
@[simp] theorem setRequested_map (v : Int) : (s.setRequested v).map = s.map := rfl
@[simp] theorem setRequested_marks (v : Int) : (s.setRequested v).marks = s.marks := rfl
@[simp] theorem setRequested_locate (v : Int) : (s.setRequested v).locate = s.locate := rfl
@[simp] theorem setRequested_prot (v : Int) : (s.setRequested v).prot = s.prot := rfl
@[simp] theorem setRequested_ports (v : Int) : (s.setRequested v).ports = s.ports := rfl
@[simp] theorem setRequested_tapePath (v : Int) : (s.setRequested v).tapePath = s.tapePath := rfl
@[simp] theorem setRequested_due (v : Int) : (s.setRequested v).due = s.due := rfl
@[simp] theorem setRequested_draws (v : Int) : (s.setRequested v).draws = s.draws := rfl
@[simp] theorem setRequested_pending (v : Int) : (s.setRequested v).pending = s.pending := rfl

/-! ### `State.setSpeed` -/

@[simp] theorem setSpeed_geom (v : Speed) : (s.setSpeed v).geom = s.geom := rfl
@[simp] theorem setSpeed_tension (v : Speed) : (s.setSpeed v).tension = s.tension := rfl
@[simp] theorem setSpeed_seq (v : Speed) : (s.setSpeed v).seq = s.seq := rfl
@[simp] theorem setSpeed_arb (v : Speed) : (s.setSpeed v).arb = s.arb := rfl
@[simp] theorem setSpeed_map (v : Speed) : (s.setSpeed v).map = s.map := rfl
@[simp] theorem setSpeed_marks (v : Speed) : (s.setSpeed v).marks = s.marks := rfl
@[simp] theorem setSpeed_locate (v : Speed) : (s.setSpeed v).locate = s.locate := rfl
@[simp] theorem setSpeed_prot (v : Speed) : (s.setSpeed v).prot = s.prot := rfl
@[simp] theorem setSpeed_ports (v : Speed) : (s.setSpeed v).ports = s.ports := rfl
@[simp] theorem setSpeed_tapePath (v : Speed) : (s.setSpeed v).tapePath = s.tapePath := rfl
@[simp] theorem setSpeed_due (v : Speed) : (s.setSpeed v).due = s.due := rfl
@[simp] theorem setSpeed_draws (v : Speed) : (s.setSpeed v).draws = s.draws := rfl
@[simp] theorem setSpeed_pending (v : Speed) : (s.setSpeed v).pending = s.pending := rfl

/-! ### `State.setLoop` -/

@[simp] theorem setLoop_geom (l : CapstanLoop) : (s.setLoop l).geom = s.geom := rfl
@[simp] theorem setLoop_tension (l : CapstanLoop) : (s.setLoop l).tension = s.tension := rfl
@[simp] theorem setLoop_seq (l : CapstanLoop) : (s.setLoop l).seq = s.seq := rfl
@[simp] theorem setLoop_arb (l : CapstanLoop) : (s.setLoop l).arb = s.arb := rfl
@[simp] theorem setLoop_map (l : CapstanLoop) : (s.setLoop l).map = s.map := rfl
@[simp] theorem setLoop_marks (l : CapstanLoop) : (s.setLoop l).marks = s.marks := rfl
@[simp] theorem setLoop_locate (l : CapstanLoop) : (s.setLoop l).locate = s.locate := rfl
@[simp] theorem setLoop_prot (l : CapstanLoop) : (s.setLoop l).prot = s.prot := rfl
@[simp] theorem setLoop_ports (l : CapstanLoop) : (s.setLoop l).ports = s.ports := rfl
@[simp] theorem setLoop_tapePath (l : CapstanLoop) : (s.setLoop l).tapePath = s.tapePath := rfl
@[simp] theorem setLoop_due (l : CapstanLoop) : (s.setLoop l).due = s.due := rfl
@[simp] theorem setLoop_draws (l : CapstanLoop) : (s.setLoop l).draws = s.draws := rfl
@[simp] theorem setLoop_pending (l : CapstanLoop) : (s.setLoop l).pending = s.pending := rfl

/-! ### `State.generatorStep` -/

@[simp] theorem generatorStep_geom : (s.generatorStep).geom = s.geom := rfl
@[simp] theorem generatorStep_tension : (s.generatorStep).tension = s.tension := rfl
@[simp] theorem generatorStep_seq : (s.generatorStep).seq = s.seq := rfl
@[simp] theorem generatorStep_arb : (s.generatorStep).arb = s.arb := rfl
@[simp] theorem generatorStep_map : (s.generatorStep).map = s.map := rfl
@[simp] theorem generatorStep_marks : (s.generatorStep).marks = s.marks := rfl
@[simp] theorem generatorStep_locate : (s.generatorStep).locate = s.locate := rfl
@[simp] theorem generatorStep_prot : (s.generatorStep).prot = s.prot := rfl
@[simp] theorem generatorStep_ports : (s.generatorStep).ports = s.ports := rfl
@[simp] theorem generatorStep_tapePath : (s.generatorStep).tapePath = s.tapePath := rfl
@[simp] theorem generatorStep_due : (s.generatorStep).due = s.due := rfl
@[simp] theorem generatorStep_draws : (s.generatorStep).draws = s.draws := rfl
@[simp] theorem generatorStep_pending : (s.generatorStep).pending = s.pending := rfl

/-! ### `State.cancelCreep` -/

@[simp] theorem cancelCreep_geom : (s.cancelCreep).geom = s.geom := rfl
@[simp] theorem cancelCreep_tension : (s.cancelCreep).tension = s.tension := rfl
@[simp] theorem cancelCreep_speed : (s.cancelCreep).speed = s.speed := rfl
@[simp] theorem cancelCreep_arb : (s.cancelCreep).arb = s.arb := rfl
@[simp] theorem cancelCreep_map : (s.cancelCreep).map = s.map := rfl
@[simp] theorem cancelCreep_marks : (s.cancelCreep).marks = s.marks := rfl
@[simp] theorem cancelCreep_locate : (s.cancelCreep).locate = s.locate := rfl
@[simp] theorem cancelCreep_prot : (s.cancelCreep).prot = s.prot := rfl
@[simp] theorem cancelCreep_ports : (s.cancelCreep).ports = s.ports := rfl
@[simp] theorem cancelCreep_tapePath : (s.cancelCreep).tapePath = s.tapePath := rfl
@[simp] theorem cancelCreep_due : (s.cancelCreep).due = s.due := rfl
@[simp] theorem cancelCreep_draws : (s.cancelCreep).draws = s.draws := rfl
@[simp] theorem cancelCreep_pending : (s.cancelCreep).pending = s.pending := rfl

/-! ### `State.seeLeader` -/

@[simp] theorem seeLeader_geom (l : Leader) : (s.seeLeader l).geom = s.geom := rfl
@[simp] theorem seeLeader_tension (l : Leader) : (s.seeLeader l).tension = s.tension := rfl
@[simp] theorem seeLeader_speed (l : Leader) : (s.seeLeader l).speed = s.speed := rfl
@[simp] theorem seeLeader_arb (l : Leader) : (s.seeLeader l).arb = s.arb := rfl
@[simp] theorem seeLeader_map (l : Leader) : (s.seeLeader l).map = s.map := rfl
@[simp] theorem seeLeader_marks (l : Leader) : (s.seeLeader l).marks = s.marks := rfl
@[simp] theorem seeLeader_locate (l : Leader) : (s.seeLeader l).locate = s.locate := rfl
@[simp] theorem seeLeader_prot (l : Leader) : (s.seeLeader l).prot = s.prot := rfl
@[simp] theorem seeLeader_ports (l : Leader) : (s.seeLeader l).ports = s.ports := rfl
@[simp] theorem seeLeader_tapePath (l : Leader) : (s.seeLeader l).tapePath = s.tapePath := rfl
@[simp] theorem seeLeader_due (l : Leader) : (s.seeLeader l).due = s.due := rfl
@[simp] theorem seeLeader_draws (l : Leader) : (s.seeLeader l).draws = s.draws := rfl
@[simp] theorem seeLeader_pending (l : Leader) : (s.seeLeader l).pending = s.pending := rfl

/-! ### `State.setGeom` -/

@[simp] theorem setGeom_tension (g : Geometry) : (s.setGeom g).tension = s.tension := rfl
@[simp] theorem setGeom_speed (g : Geometry) : (s.setGeom g).speed = s.speed := rfl
@[simp] theorem setGeom_seq (g : Geometry) : (s.setGeom g).seq = s.seq := rfl
@[simp] theorem setGeom_arb (g : Geometry) : (s.setGeom g).arb = s.arb := rfl
@[simp] theorem setGeom_map (g : Geometry) : (s.setGeom g).map = s.map := rfl
@[simp] theorem setGeom_marks (g : Geometry) : (s.setGeom g).marks = s.marks := rfl
@[simp] theorem setGeom_locate (g : Geometry) : (s.setGeom g).locate = s.locate := rfl
@[simp] theorem setGeom_prot (g : Geometry) : (s.setGeom g).prot = s.prot := rfl
@[simp] theorem setGeom_ports (g : Geometry) : (s.setGeom g).ports = s.ports := rfl
@[simp] theorem setGeom_tapePath (g : Geometry) : (s.setGeom g).tapePath = s.tapePath := rfl
@[simp] theorem setGeom_due (g : Geometry) : (s.setGeom g).due = s.due := rfl
@[simp] theorem setGeom_draws (g : Geometry) : (s.setGeom g).draws = s.draws := rfl
@[simp] theorem setGeom_pending (g : Geometry) : (s.setGeom g).pending = s.pending := rfl

/-! ### `State.stopMeasuringTimer` -/

@[simp] theorem stopMeasuringTimer_tension : (s.stopMeasuringTimer).tension = s.tension := rfl
@[simp] theorem stopMeasuringTimer_speed : (s.stopMeasuringTimer).speed = s.speed := rfl
@[simp] theorem stopMeasuringTimer_seq : (s.stopMeasuringTimer).seq = s.seq := rfl
@[simp] theorem stopMeasuringTimer_arb : (s.stopMeasuringTimer).arb = s.arb := rfl
@[simp] theorem stopMeasuringTimer_map : (s.stopMeasuringTimer).map = s.map := rfl
@[simp] theorem stopMeasuringTimer_marks : (s.stopMeasuringTimer).marks = s.marks := rfl
@[simp] theorem stopMeasuringTimer_locate : (s.stopMeasuringTimer).locate = s.locate := rfl
@[simp] theorem stopMeasuringTimer_prot : (s.stopMeasuringTimer).prot = s.prot := rfl
@[simp] theorem stopMeasuringTimer_ports : (s.stopMeasuringTimer).ports = s.ports := rfl
@[simp] theorem stopMeasuringTimer_tapePath : (s.stopMeasuringTimer).tapePath = s.tapePath := rfl
@[simp] theorem stopMeasuringTimer_due : (s.stopMeasuringTimer).due = s.due := rfl
@[simp] theorem stopMeasuringTimer_draws : (s.stopMeasuringTimer).draws = s.draws := rfl
@[simp] theorem stopMeasuringTimer_pending : (s.stopMeasuringTimer).pending = s.pending := rfl

/-! ### `State.setMap` -/

@[simp] theorem setMap_geom (m : MapUnit) : (s.setMap m).geom = s.geom := rfl
@[simp] theorem setMap_tension (m : MapUnit) : (s.setMap m).tension = s.tension := rfl
@[simp] theorem setMap_speed (m : MapUnit) : (s.setMap m).speed = s.speed := rfl
@[simp] theorem setMap_seq (m : MapUnit) : (s.setMap m).seq = s.seq := rfl
@[simp] theorem setMap_arb (m : MapUnit) : (s.setMap m).arb = s.arb := rfl
@[simp] theorem setMap_marks (m : MapUnit) : (s.setMap m).marks = s.marks := rfl
@[simp] theorem setMap_locate (m : MapUnit) : (s.setMap m).locate = s.locate := rfl
@[simp] theorem setMap_prot (m : MapUnit) : (s.setMap m).prot = s.prot := rfl
@[simp] theorem setMap_ports (m : MapUnit) : (s.setMap m).ports = s.ports := rfl
@[simp] theorem setMap_tapePath (m : MapUnit) : (s.setMap m).tapePath = s.tapePath := rfl
@[simp] theorem setMap_due (m : MapUnit) : (s.setMap m).due = s.due := rfl
@[simp] theorem setMap_draws (m : MapUnit) : (s.setMap m).draws = s.draws := rfl
@[simp] theorem setMap_pending (m : MapUnit) : (s.setMap m).pending = s.pending := rfl

/-! ### `State.setMarks` -/

@[simp] theorem setMarks_geom (ms : List Mark) : (s.setMarks ms).geom = s.geom := rfl
@[simp] theorem setMarks_tension (ms : List Mark) : (s.setMarks ms).tension = s.tension := rfl
@[simp] theorem setMarks_speed (ms : List Mark) : (s.setMarks ms).speed = s.speed := rfl
@[simp] theorem setMarks_seq (ms : List Mark) : (s.setMarks ms).seq = s.seq := rfl
@[simp] theorem setMarks_arb (ms : List Mark) : (s.setMarks ms).arb = s.arb := rfl
@[simp] theorem setMarks_map (ms : List Mark) : (s.setMarks ms).map = s.map := rfl
@[simp] theorem setMarks_locate (ms : List Mark) : (s.setMarks ms).locate = s.locate := rfl
@[simp] theorem setMarks_prot (ms : List Mark) : (s.setMarks ms).prot = s.prot := rfl
@[simp] theorem setMarks_ports (ms : List Mark) : (s.setMarks ms).ports = s.ports := rfl
@[simp] theorem setMarks_tapePath (ms : List Mark) : (s.setMarks ms).tapePath = s.tapePath := rfl
@[simp] theorem setMarks_due (ms : List Mark) : (s.setMarks ms).due = s.due := rfl
@[simp] theorem setMarks_draws (ms : List Mark) : (s.setMarks ms).draws = s.draws := rfl
@[simp] theorem setMarks_pending (ms : List Mark) : (s.setMarks ms).pending = s.pending := rfl

/-! ### `State.announce` -/

@[simp] theorem announce_geom (cs : List Change) : (s.announce cs).geom = s.geom := by unfold State.announce; split <;> simp
@[simp] theorem announce_tension (cs : List Change) : (s.announce cs).tension = s.tension := by unfold State.announce; split <;> simp
@[simp] theorem announce_speed (cs : List Change) : (s.announce cs).speed = s.speed := by unfold State.announce; split <;> simp
@[simp] theorem announce_seq (cs : List Change) : (s.announce cs).seq = s.seq := by unfold State.announce; split <;> simp
@[simp] theorem announce_arb (cs : List Change) : (s.announce cs).arb = s.arb := by unfold State.announce; split <;> simp
@[simp] theorem announce_map (cs : List Change) : (s.announce cs).map = s.map := by unfold State.announce; split <;> simp
@[simp] theorem announce_locate (cs : List Change) : (s.announce cs).locate = s.locate := by unfold State.announce; split <;> simp
@[simp] theorem announce_prot (cs : List Change) : (s.announce cs).prot = s.prot := by unfold State.announce; split <;> simp
@[simp] theorem announce_tapePath (cs : List Change) : (s.announce cs).tapePath = s.tapePath := by unfold State.announce; split <;> simp
@[simp] theorem announce_due (cs : List Change) : (s.announce cs).due = s.due := by unfold State.announce; split <;> simp
@[simp] theorem announce_draws (cs : List Change) : (s.announce cs).draws = s.draws := by unfold State.announce; split <;> simp
@[simp] theorem announce_pending (cs : List Change) : (s.announce cs).pending = s.pending := by unfold State.announce; split <;> simp

/-! ### `State.mapEvent` -/

@[simp] theorem mapEvent_geom (e : Learned) : (s.mapEvent e).geom = s.geom := by simp [State.mapEvent]
@[simp] theorem mapEvent_tension (e : Learned) : (s.mapEvent e).tension = s.tension := by simp [State.mapEvent]
@[simp] theorem mapEvent_speed (e : Learned) : (s.mapEvent e).speed = s.speed := by simp [State.mapEvent]
@[simp] theorem mapEvent_seq (e : Learned) : (s.mapEvent e).seq = s.seq := by simp [State.mapEvent]
@[simp] theorem mapEvent_arb (e : Learned) : (s.mapEvent e).arb = s.arb := by simp [State.mapEvent]
@[simp] theorem mapEvent_locate (e : Learned) : (s.mapEvent e).locate = s.locate := by simp [State.mapEvent]
@[simp] theorem mapEvent_prot (e : Learned) : (s.mapEvent e).prot = s.prot := by simp [State.mapEvent]
@[simp] theorem mapEvent_tapePath (e : Learned) : (s.mapEvent e).tapePath = s.tapePath := by simp [State.mapEvent]
@[simp] theorem mapEvent_due (e : Learned) : (s.mapEvent e).due = s.due := by simp [State.mapEvent]
@[simp] theorem mapEvent_draws (e : Learned) : (s.mapEvent e).draws = s.draws := by simp [State.mapEvent]
@[simp] theorem mapEvent_pending (e : Learned) : (s.mapEvent e).pending = s.pending := by simp [State.mapEvent]

/-! ### `State.linkError` -/

@[simp] theorem linkError_geom : (s.linkError).geom = s.geom := rfl
@[simp] theorem linkError_tension : (s.linkError).tension = s.tension := rfl
@[simp] theorem linkError_speed : (s.linkError).speed = s.speed := rfl
@[simp] theorem linkError_seq : (s.linkError).seq = s.seq := rfl
@[simp] theorem linkError_arb : (s.linkError).arb = s.arb := rfl
@[simp] theorem linkError_marks : (s.linkError).marks = s.marks := rfl
@[simp] theorem linkError_locate : (s.linkError).locate = s.locate := rfl
@[simp] theorem linkError_prot : (s.linkError).prot = s.prot := rfl
@[simp] theorem linkError_tapePath : (s.linkError).tapePath = s.tapePath := rfl
@[simp] theorem linkError_due : (s.linkError).due = s.due := rfl
@[simp] theorem linkError_draws : (s.linkError).draws = s.draws := rfl
@[simp] theorem linkError_pending : (s.linkError).pending = s.pending := rfl

/-! ### `State.setDue` -/

@[simp] theorem setDue_geom (ds : List Due) : (s.setDue ds).geom = s.geom := rfl
@[simp] theorem setDue_tension (ds : List Due) : (s.setDue ds).tension = s.tension := rfl
@[simp] theorem setDue_speed (ds : List Due) : (s.setDue ds).speed = s.speed := rfl
@[simp] theorem setDue_seq (ds : List Due) : (s.setDue ds).seq = s.seq := rfl
@[simp] theorem setDue_arb (ds : List Due) : (s.setDue ds).arb = s.arb := rfl
@[simp] theorem setDue_map (ds : List Due) : (s.setDue ds).map = s.map := rfl
@[simp] theorem setDue_marks (ds : List Due) : (s.setDue ds).marks = s.marks := rfl
@[simp] theorem setDue_locate (ds : List Due) : (s.setDue ds).locate = s.locate := rfl
@[simp] theorem setDue_prot (ds : List Due) : (s.setDue ds).prot = s.prot := rfl
@[simp] theorem setDue_ports (ds : List Due) : (s.setDue ds).ports = s.ports := rfl
@[simp] theorem setDue_tapePath (ds : List Due) : (s.setDue ds).tapePath = s.tapePath := rfl
@[simp] theorem setDue_draws (ds : List Due) : (s.setDue ds).draws = s.draws := rfl
@[simp] theorem setDue_pending (ds : List Due) : (s.setDue ds).pending = s.pending := rfl

/-! ### `State.raiseDue` -/

@[simp] theorem raiseDue_geom (b : Bool) (d : Due) : (s.raiseDue b d).geom = s.geom := by unfold State.raiseDue; split <;> rfl
@[simp] theorem raiseDue_tension (b : Bool) (d : Due) : (s.raiseDue b d).tension = s.tension := by unfold State.raiseDue; split <;> rfl
@[simp] theorem raiseDue_speed (b : Bool) (d : Due) : (s.raiseDue b d).speed = s.speed := by unfold State.raiseDue; split <;> rfl
@[simp] theorem raiseDue_seq (b : Bool) (d : Due) : (s.raiseDue b d).seq = s.seq := by unfold State.raiseDue; split <;> rfl
@[simp] theorem raiseDue_arb (b : Bool) (d : Due) : (s.raiseDue b d).arb = s.arb := by unfold State.raiseDue; split <;> rfl
@[simp] theorem raiseDue_map (b : Bool) (d : Due) : (s.raiseDue b d).map = s.map := by unfold State.raiseDue; split <;> rfl
@[simp] theorem raiseDue_marks (b : Bool) (d : Due) : (s.raiseDue b d).marks = s.marks := by unfold State.raiseDue; split <;> rfl
@[simp] theorem raiseDue_locate (b : Bool) (d : Due) : (s.raiseDue b d).locate = s.locate := by unfold State.raiseDue; split <;> rfl
@[simp] theorem raiseDue_prot (b : Bool) (d : Due) : (s.raiseDue b d).prot = s.prot := by unfold State.raiseDue; split <;> rfl
@[simp] theorem raiseDue_ports (b : Bool) (d : Due) : (s.raiseDue b d).ports = s.ports := by unfold State.raiseDue; split <;> rfl
@[simp] theorem raiseDue_tapePath (b : Bool) (d : Due) : (s.raiseDue b d).tapePath = s.tapePath := by unfold State.raiseDue; split <;> rfl
@[simp] theorem raiseDue_draws (b : Bool) (d : Due) : (s.raiseDue b d).draws = s.draws := by unfold State.raiseDue; split <;> rfl
@[simp] theorem raiseDue_pending (b : Bool) (d : Due) : (s.raiseDue b d).pending = s.pending := by unfold State.raiseDue; split <;> rfl

/-! ### `State.noteStart` -/

@[simp] theorem noteStart_geom (k : MotionKind) : (s.noteStart k).geom = s.geom := by simp [State.noteStart]
@[simp] theorem noteStart_tension (k : MotionKind) : (s.noteStart k).tension = s.tension := by simp [State.noteStart]
@[simp] theorem noteStart_speed (k : MotionKind) : (s.noteStart k).speed = s.speed := by simp [State.noteStart]
@[simp] theorem noteStart_seq (k : MotionKind) : (s.noteStart k).seq = s.seq := by simp [State.noteStart]
@[simp] theorem noteStart_arb (k : MotionKind) : (s.noteStart k).arb = s.arb := by simp [State.noteStart]
@[simp] theorem noteStart_map (k : MotionKind) : (s.noteStart k).map = s.map := by simp [State.noteStart]
@[simp] theorem noteStart_marks (k : MotionKind) : (s.noteStart k).marks = s.marks := by simp [State.noteStart]
@[simp] theorem noteStart_locate (k : MotionKind) : (s.noteStart k).locate = s.locate := by simp [State.noteStart]
@[simp] theorem noteStart_prot (k : MotionKind) : (s.noteStart k).prot = s.prot := by simp [State.noteStart]
@[simp] theorem noteStart_ports (k : MotionKind) : (s.noteStart k).ports = s.ports := by simp [State.noteStart]
@[simp] theorem noteStart_tapePath (k : MotionKind) : (s.noteStart k).tapePath = s.tapePath := by simp [State.noteStart]
@[simp] theorem noteStart_draws (k : MotionKind) : (s.noteStart k).draws = s.draws := by simp [State.noteStart]
@[simp] theorem noteStart_pending (k : MotionKind) : (s.noteStart k).pending = s.pending := by simp [State.noteStart]

/-! ### `State.drawFree` -/

@[simp] theorem drawFree_geom : (s.drawFree).geom = s.geom := rfl
@[simp] theorem drawFree_tension : (s.drawFree).tension = s.tension := rfl
@[simp] theorem drawFree_speed : (s.drawFree).speed = s.speed := rfl
@[simp] theorem drawFree_seq : (s.drawFree).seq = s.seq := rfl
@[simp] theorem drawFree_arb : (s.drawFree).arb = s.arb := rfl
@[simp] theorem drawFree_map : (s.drawFree).map = s.map := rfl
@[simp] theorem drawFree_marks : (s.drawFree).marks = s.marks := rfl
@[simp] theorem drawFree_locate : (s.drawFree).locate = s.locate := rfl
@[simp] theorem drawFree_prot : (s.drawFree).prot = s.prot := rfl
@[simp] theorem drawFree_ports : (s.drawFree).ports = s.ports := rfl
@[simp] theorem drawFree_tapePath : (s.drawFree).tapePath = s.tapePath := rfl
@[simp] theorem drawFree_due : (s.drawFree).due = s.due := rfl
@[simp] theorem drawFree_pending : (s.drawFree).pending = s.pending := rfl

/-! ### `State.setAxis` -/

@[simp] theorem setAxis_geom (r : Reel) (a : Axis) : (s.setAxis r a).geom = s.geom := rfl
@[simp] theorem setAxis_speed (r : Reel) (a : Axis) : (s.setAxis r a).speed = s.speed := rfl
@[simp] theorem setAxis_seq (r : Reel) (a : Axis) : (s.setAxis r a).seq = s.seq := rfl
@[simp] theorem setAxis_arb (r : Reel) (a : Axis) : (s.setAxis r a).arb = s.arb := rfl
@[simp] theorem setAxis_map (r : Reel) (a : Axis) : (s.setAxis r a).map = s.map := rfl
@[simp] theorem setAxis_marks (r : Reel) (a : Axis) : (s.setAxis r a).marks = s.marks := rfl
@[simp] theorem setAxis_locate (r : Reel) (a : Axis) : (s.setAxis r a).locate = s.locate := rfl
@[simp] theorem setAxis_prot (r : Reel) (a : Axis) : (s.setAxis r a).prot = s.prot := rfl
@[simp] theorem setAxis_ports (r : Reel) (a : Axis) : (s.setAxis r a).ports = s.ports := rfl
@[simp] theorem setAxis_tapePath (r : Reel) (a : Axis) : (s.setAxis r a).tapePath = s.tapePath := rfl
@[simp] theorem setAxis_due (r : Reel) (a : Axis) : (s.setAxis r a).due = s.due := rfl
@[simp] theorem setAxis_draws (r : Reel) (a : Axis) : (s.setAxis r a).draws = s.draws := rfl
@[simp] theorem setAxis_pending (r : Reel) (a : Axis) : (s.setAxis r a).pending = s.pending := rfl

/-! ### `State.noteOut` -/

@[simp] theorem noteOut_geom (r : Reel) : (s.noteOut r).geom = s.geom := rfl
@[simp] theorem noteOut_speed (r : Reel) : (s.noteOut r).speed = s.speed := rfl
@[simp] theorem noteOut_seq (r : Reel) : (s.noteOut r).seq = s.seq := rfl
@[simp] theorem noteOut_arb (r : Reel) : (s.noteOut r).arb = s.arb := rfl
@[simp] theorem noteOut_map (r : Reel) : (s.noteOut r).map = s.map := rfl
@[simp] theorem noteOut_marks (r : Reel) : (s.noteOut r).marks = s.marks := rfl
@[simp] theorem noteOut_locate (r : Reel) : (s.noteOut r).locate = s.locate := rfl
@[simp] theorem noteOut_prot (r : Reel) : (s.noteOut r).prot = s.prot := rfl
@[simp] theorem noteOut_ports (r : Reel) : (s.noteOut r).ports = s.ports := rfl
@[simp] theorem noteOut_tapePath (r : Reel) : (s.noteOut r).tapePath = s.tapePath := rfl
@[simp] theorem noteOut_due (r : Reel) : (s.noteOut r).due = s.due := rfl
@[simp] theorem noteOut_draws (r : Reel) : (s.noteOut r).draws = s.draws := rfl
@[simp] theorem noteOut_pending (r : Reel) : (s.noteOut r).pending = s.pending := rfl

/-! ### `State.stopThreadingTimer` -/

@[simp] theorem stopThreadingTimer_geom : (s.stopThreadingTimer).geom = s.geom := rfl
@[simp] theorem stopThreadingTimer_speed : (s.stopThreadingTimer).speed = s.speed := rfl
@[simp] theorem stopThreadingTimer_seq : (s.stopThreadingTimer).seq = s.seq := rfl
@[simp] theorem stopThreadingTimer_arb : (s.stopThreadingTimer).arb = s.arb := rfl
@[simp] theorem stopThreadingTimer_map : (s.stopThreadingTimer).map = s.map := rfl
@[simp] theorem stopThreadingTimer_marks : (s.stopThreadingTimer).marks = s.marks := rfl
@[simp] theorem stopThreadingTimer_locate : (s.stopThreadingTimer).locate = s.locate := rfl
@[simp] theorem stopThreadingTimer_prot : (s.stopThreadingTimer).prot = s.prot := rfl
@[simp] theorem stopThreadingTimer_ports : (s.stopThreadingTimer).ports = s.ports := rfl
@[simp] theorem stopThreadingTimer_tapePath : (s.stopThreadingTimer).tapePath = s.tapePath := rfl
@[simp] theorem stopThreadingTimer_due : (s.stopThreadingTimer).due = s.due := rfl
@[simp] theorem stopThreadingTimer_draws : (s.stopThreadingTimer).draws = s.draws := rfl
@[simp] theorem stopThreadingTimer_pending : (s.stopThreadingTimer).pending = s.pending := rfl

/-! ### `State.capture` -/

@[simp] theorem capture_geom (c : Cause) (a : CauseAxis) : (s.capture c a).geom = s.geom := by unfold State.capture; split <;> rfl
@[simp] theorem capture_tension (c : Cause) (a : CauseAxis) : (s.capture c a).tension = s.tension := by unfold State.capture; split <;> rfl
@[simp] theorem capture_speed (c : Cause) (a : CauseAxis) : (s.capture c a).speed = s.speed := by unfold State.capture; split <;> rfl
@[simp] theorem capture_seq (c : Cause) (a : CauseAxis) : (s.capture c a).seq = s.seq := by unfold State.capture; split <;> rfl
@[simp] theorem capture_arb (c : Cause) (a : CauseAxis) : (s.capture c a).arb = s.arb := by unfold State.capture; split <;> rfl
@[simp] theorem capture_map (c : Cause) (a : CauseAxis) : (s.capture c a).map = s.map := by unfold State.capture; split <;> rfl
@[simp] theorem capture_marks (c : Cause) (a : CauseAxis) : (s.capture c a).marks = s.marks := by unfold State.capture; split <;> rfl
@[simp] theorem capture_locate (c : Cause) (a : CauseAxis) : (s.capture c a).locate = s.locate := by unfold State.capture; split <;> rfl
@[simp] theorem capture_ports (c : Cause) (a : CauseAxis) : (s.capture c a).ports = s.ports := by unfold State.capture; split <;> rfl
@[simp] theorem capture_tapePath (c : Cause) (a : CauseAxis) : (s.capture c a).tapePath = s.tapePath := by unfold State.capture; split <;> rfl
@[simp] theorem capture_due (c : Cause) (a : CauseAxis) : (s.capture c a).due = s.due := by unfold State.capture; split <;> rfl
@[simp] theorem capture_draws (c : Cause) (a : CauseAxis) : (s.capture c a).draws = s.draws := by unfold State.capture; split <;> rfl
@[simp] theorem capture_pending (c : Cause) (a : CauseAxis) : (s.capture c a).pending = s.pending := by unfold State.capture; split <;> rfl

/-! ### `State.clearUnread` -/

@[simp] theorem clearUnread_geom : (s.clearUnread).geom = s.geom := rfl
@[simp] theorem clearUnread_tension : (s.clearUnread).tension = s.tension := rfl
@[simp] theorem clearUnread_speed : (s.clearUnread).speed = s.speed := rfl
@[simp] theorem clearUnread_seq : (s.clearUnread).seq = s.seq := rfl
@[simp] theorem clearUnread_arb : (s.clearUnread).arb = s.arb := rfl
@[simp] theorem clearUnread_map : (s.clearUnread).map = s.map := rfl
@[simp] theorem clearUnread_marks : (s.clearUnread).marks = s.marks := rfl
@[simp] theorem clearUnread_locate : (s.clearUnread).locate = s.locate := rfl
@[simp] theorem clearUnread_ports : (s.clearUnread).ports = s.ports := rfl
@[simp] theorem clearUnread_tapePath : (s.clearUnread).tapePath = s.tapePath := rfl
@[simp] theorem clearUnread_due : (s.clearUnread).due = s.due := rfl
@[simp] theorem clearUnread_draws : (s.clearUnread).draws = s.draws := rfl
@[simp] theorem clearUnread_pending : (s.clearUnread).pending = s.pending := rfl

/-! ### `State.setTapeOut` -/

@[simp] theorem setTapeOut_geom (n : Nat) : (s.setTapeOut n).geom = s.geom := rfl
@[simp] theorem setTapeOut_tension (n : Nat) : (s.setTapeOut n).tension = s.tension := rfl
@[simp] theorem setTapeOut_speed (n : Nat) : (s.setTapeOut n).speed = s.speed := rfl
@[simp] theorem setTapeOut_seq (n : Nat) : (s.setTapeOut n).seq = s.seq := rfl
@[simp] theorem setTapeOut_arb (n : Nat) : (s.setTapeOut n).arb = s.arb := rfl
@[simp] theorem setTapeOut_map (n : Nat) : (s.setTapeOut n).map = s.map := rfl
@[simp] theorem setTapeOut_marks (n : Nat) : (s.setTapeOut n).marks = s.marks := rfl
@[simp] theorem setTapeOut_locate (n : Nat) : (s.setTapeOut n).locate = s.locate := rfl
@[simp] theorem setTapeOut_ports (n : Nat) : (s.setTapeOut n).ports = s.ports := rfl
@[simp] theorem setTapeOut_tapePath (n : Nat) : (s.setTapeOut n).tapePath = s.tapePath := rfl
@[simp] theorem setTapeOut_due (n : Nat) : (s.setTapeOut n).due = s.due := rfl
@[simp] theorem setTapeOut_draws (n : Nat) : (s.setTapeOut n).draws = s.draws := rfl
@[simp] theorem setTapeOut_pending (n : Nat) : (s.setTapeOut n).pending = s.pending := rfl

/-! ### `State.setExtStop` -/

@[simp] theorem setExtStop_geom (b : Bool) : (s.setExtStop b).geom = s.geom := rfl
@[simp] theorem setExtStop_tension (b : Bool) : (s.setExtStop b).tension = s.tension := rfl
@[simp] theorem setExtStop_speed (b : Bool) : (s.setExtStop b).speed = s.speed := rfl
@[simp] theorem setExtStop_seq (b : Bool) : (s.setExtStop b).seq = s.seq := rfl
@[simp] theorem setExtStop_arb (b : Bool) : (s.setExtStop b).arb = s.arb := rfl
@[simp] theorem setExtStop_map (b : Bool) : (s.setExtStop b).map = s.map := rfl
@[simp] theorem setExtStop_marks (b : Bool) : (s.setExtStop b).marks = s.marks := rfl
@[simp] theorem setExtStop_locate (b : Bool) : (s.setExtStop b).locate = s.locate := rfl
@[simp] theorem setExtStop_ports (b : Bool) : (s.setExtStop b).ports = s.ports := rfl
@[simp] theorem setExtStop_tapePath (b : Bool) : (s.setExtStop b).tapePath = s.tapePath := rfl
@[simp] theorem setExtStop_due (b : Bool) : (s.setExtStop b).due = s.due := rfl
@[simp] theorem setExtStop_draws (b : Bool) : (s.setExtStop b).draws = s.draws := rfl
@[simp] theorem setExtStop_pending (b : Bool) : (s.setExtStop b).pending = s.pending := rfl

/-! ### `State.setAsserted` -/

@[simp] theorem setAsserted_geom (b : Bool) : (s.setAsserted b).geom = s.geom := rfl
@[simp] theorem setAsserted_tension (b : Bool) : (s.setAsserted b).tension = s.tension := rfl
@[simp] theorem setAsserted_speed (b : Bool) : (s.setAsserted b).speed = s.speed := rfl
@[simp] theorem setAsserted_seq (b : Bool) : (s.setAsserted b).seq = s.seq := rfl
@[simp] theorem setAsserted_arb (b : Bool) : (s.setAsserted b).arb = s.arb := rfl
@[simp] theorem setAsserted_map (b : Bool) : (s.setAsserted b).map = s.map := rfl
@[simp] theorem setAsserted_marks (b : Bool) : (s.setAsserted b).marks = s.marks := rfl
@[simp] theorem setAsserted_locate (b : Bool) : (s.setAsserted b).locate = s.locate := rfl
@[simp] theorem setAsserted_prot (b : Bool) : (s.setAsserted b).prot = s.prot := rfl
@[simp] theorem setAsserted_tapePath (b : Bool) : (s.setAsserted b).tapePath = s.tapePath := rfl
@[simp] theorem setAsserted_due (b : Bool) : (s.setAsserted b).due = s.due := rfl
@[simp] theorem setAsserted_draws (b : Bool) : (s.setAsserted b).draws = s.draws := rfl
@[simp] theorem setAsserted_pending (b : Bool) : (s.setAsserted b).pending = s.pending := rfl

/-! ### `State.setStudioRx` -/

@[simp] theorem setStudioRx_geom (r : RxState) : (s.setStudioRx r).geom = s.geom := rfl
@[simp] theorem setStudioRx_tension (r : RxState) : (s.setStudioRx r).tension = s.tension := rfl
@[simp] theorem setStudioRx_speed (r : RxState) : (s.setStudioRx r).speed = s.speed := rfl
@[simp] theorem setStudioRx_seq (r : RxState) : (s.setStudioRx r).seq = s.seq := rfl
@[simp] theorem setStudioRx_arb (r : RxState) : (s.setStudioRx r).arb = s.arb := rfl
@[simp] theorem setStudioRx_map (r : RxState) : (s.setStudioRx r).map = s.map := rfl
@[simp] theorem setStudioRx_marks (r : RxState) : (s.setStudioRx r).marks = s.marks := rfl
@[simp] theorem setStudioRx_locate (r : RxState) : (s.setStudioRx r).locate = s.locate := rfl
@[simp] theorem setStudioRx_prot (r : RxState) : (s.setStudioRx r).prot = s.prot := rfl
@[simp] theorem setStudioRx_tapePath (r : RxState) : (s.setStudioRx r).tapePath = s.tapePath := rfl
@[simp] theorem setStudioRx_due (r : RxState) : (s.setStudioRx r).due = s.due := rfl
@[simp] theorem setStudioRx_draws (r : RxState) : (s.setStudioRx r).draws = s.draws := rfl
@[simp] theorem setStudioRx_pending (r : RxState) : (s.setStudioRx r).pending = s.pending := rfl

/-! ### `State.setLinkRx` -/

@[simp] theorem setLinkRx_geom (r : LinkRx) : (s.setLinkRx r).geom = s.geom := rfl
@[simp] theorem setLinkRx_tension (r : LinkRx) : (s.setLinkRx r).tension = s.tension := rfl
@[simp] theorem setLinkRx_speed (r : LinkRx) : (s.setLinkRx r).speed = s.speed := rfl
@[simp] theorem setLinkRx_seq (r : LinkRx) : (s.setLinkRx r).seq = s.seq := rfl
@[simp] theorem setLinkRx_arb (r : LinkRx) : (s.setLinkRx r).arb = s.arb := rfl
@[simp] theorem setLinkRx_map (r : LinkRx) : (s.setLinkRx r).map = s.map := rfl
@[simp] theorem setLinkRx_marks (r : LinkRx) : (s.setLinkRx r).marks = s.marks := rfl
@[simp] theorem setLinkRx_locate (r : LinkRx) : (s.setLinkRx r).locate = s.locate := rfl
@[simp] theorem setLinkRx_prot (r : LinkRx) : (s.setLinkRx r).prot = s.prot := rfl
@[simp] theorem setLinkRx_tapePath (r : LinkRx) : (s.setLinkRx r).tapePath = s.tapePath := rfl
@[simp] theorem setLinkRx_due (r : LinkRx) : (s.setLinkRx r).due = s.due := rfl
@[simp] theorem setLinkRx_draws (r : LinkRx) : (s.setLinkRx r).draws = s.draws := rfl
@[simp] theorem setLinkRx_pending (r : LinkRx) : (s.setLinkRx r).pending = s.pending := rfl

/-! ### `State.holdResponse` -/

@[simp] theorem holdResponse_geom (p : Port) (bs : List Byte) : (s.holdResponse p bs).geom = s.geom := rfl
@[simp] theorem holdResponse_tension (p : Port) (bs : List Byte) : (s.holdResponse p bs).tension = s.tension := rfl
@[simp] theorem holdResponse_speed (p : Port) (bs : List Byte) : (s.holdResponse p bs).speed = s.speed := rfl
@[simp] theorem holdResponse_seq (p : Port) (bs : List Byte) : (s.holdResponse p bs).seq = s.seq := rfl
@[simp] theorem holdResponse_arb (p : Port) (bs : List Byte) : (s.holdResponse p bs).arb = s.arb := rfl
@[simp] theorem holdResponse_map (p : Port) (bs : List Byte) : (s.holdResponse p bs).map = s.map := rfl
@[simp] theorem holdResponse_marks (p : Port) (bs : List Byte) : (s.holdResponse p bs).marks = s.marks := rfl
@[simp] theorem holdResponse_locate (p : Port) (bs : List Byte) : (s.holdResponse p bs).locate = s.locate := rfl
@[simp] theorem holdResponse_prot (p : Port) (bs : List Byte) : (s.holdResponse p bs).prot = s.prot := rfl
@[simp] theorem holdResponse_tapePath (p : Port) (bs : List Byte) : (s.holdResponse p bs).tapePath = s.tapePath := rfl
@[simp] theorem holdResponse_due (p : Port) (bs : List Byte) : (s.holdResponse p bs).due = s.due := rfl
@[simp] theorem holdResponse_draws (p : Port) (bs : List Byte) : (s.holdResponse p bs).draws = s.draws := rfl
@[simp] theorem holdResponse_pending (p : Port) (bs : List Byte) : (s.holdResponse p bs).pending = s.pending := rfl

/-! ### `State.loseHeld` -/

@[simp] theorem loseHeld_geom (p : Port) : (s.loseHeld p).geom = s.geom := by unfold State.loseHeld; split <;> rfl
@[simp] theorem loseHeld_tension (p : Port) : (s.loseHeld p).tension = s.tension := by unfold State.loseHeld; split <;> rfl
@[simp] theorem loseHeld_speed (p : Port) : (s.loseHeld p).speed = s.speed := by unfold State.loseHeld; split <;> rfl
@[simp] theorem loseHeld_seq (p : Port) : (s.loseHeld p).seq = s.seq := by unfold State.loseHeld; split <;> rfl
@[simp] theorem loseHeld_arb (p : Port) : (s.loseHeld p).arb = s.arb := by unfold State.loseHeld; split <;> rfl
@[simp] theorem loseHeld_map (p : Port) : (s.loseHeld p).map = s.map := by unfold State.loseHeld; split <;> rfl
@[simp] theorem loseHeld_marks (p : Port) : (s.loseHeld p).marks = s.marks := by unfold State.loseHeld; split <;> rfl
@[simp] theorem loseHeld_locate (p : Port) : (s.loseHeld p).locate = s.locate := by unfold State.loseHeld; split <;> rfl
@[simp] theorem loseHeld_prot (p : Port) : (s.loseHeld p).prot = s.prot := by unfold State.loseHeld; split <;> rfl
@[simp] theorem loseHeld_tapePath (p : Port) : (s.loseHeld p).tapePath = s.tapePath := by unfold State.loseHeld; split <;> rfl
@[simp] theorem loseHeld_due (p : Port) : (s.loseHeld p).due = s.due := by unfold State.loseHeld; split <;> rfl
@[simp] theorem loseHeld_draws (p : Port) : (s.loseHeld p).draws = s.draws := by unfold State.loseHeld; split <;> rfl
@[simp] theorem loseHeld_pending (p : Port) : (s.loseHeld p).pending = s.pending := by unfold State.loseHeld; split <;> rfl

/-! ### `State.setTransport` -/

@[simp] theorem setTransport_arb (t : Transport) (d : Option RestDest) : (s.setTransport t d).arb = s.arb := rfl
@[simp] theorem setTransport_marks (t : Transport) (d : Option RestDest) : (s.setTransport t d).marks = s.marks := rfl
@[simp] theorem setTransport_ports (t : Transport) (d : Option RestDest) : (s.setTransport t d).ports = s.ports := rfl
@[simp] theorem setTransport_tapePath (t : Transport) (d : Option RestDest) : (s.setTransport t d).tapePath = s.tapePath := rfl
@[simp] theorem setTransport_due (t : Transport) (d : Option RestDest) : (s.setTransport t d).due = s.due := rfl
@[simp] theorem setTransport_draws (t : Transport) (d : Option RestDest) : (s.setTransport t d).draws = s.draws := rfl
@[simp] theorem setTransport_pending (t : Transport) (d : Option RestDest) : (s.setTransport t d).pending = s.pending := rfl

/-! ### `State.dropPending` -/

@[simp] theorem dropPending_geom : (s.dropPending).geom = s.geom := by unfold State.dropPending; split <;> rfl
@[simp] theorem dropPending_tension : (s.dropPending).tension = s.tension := by unfold State.dropPending; split <;> rfl
@[simp] theorem dropPending_speed : (s.dropPending).speed = s.speed := by unfold State.dropPending; split <;> rfl
@[simp] theorem dropPending_seq : (s.dropPending).seq = s.seq := by unfold State.dropPending; split <;> rfl
@[simp] theorem dropPending_map : (s.dropPending).map = s.map := by unfold State.dropPending; split <;> rfl
@[simp] theorem dropPending_marks : (s.dropPending).marks = s.marks := by unfold State.dropPending; split <;> rfl
@[simp] theorem dropPending_locate : (s.dropPending).locate = s.locate := by unfold State.dropPending; split <;> rfl
@[simp] theorem dropPending_prot : (s.dropPending).prot = s.prot := by unfold State.dropPending; split <;> rfl
@[simp] theorem dropPending_tapePath : (s.dropPending).tapePath = s.tapePath := by unfold State.dropPending; split <;> rfl
@[simp] theorem dropPending_due : (s.dropPending).due = s.due := by unfold State.dropPending; split <;> rfl
@[simp] theorem dropPending_draws : (s.dropPending).draws = s.draws := by unfold State.dropPending; split <;> rfl
@[simp] theorem dropPending_pending : (s.dropPending).pending = s.pending := by unfold State.dropPending; split <;> rfl

/-! ### `State.breakChase` -/

@[simp] theorem breakChase_geom : (s.breakChase).geom = s.geom := rfl
@[simp] theorem breakChase_tension : (s.breakChase).tension = s.tension := rfl
@[simp] theorem breakChase_speed : (s.breakChase).speed = s.speed := rfl
@[simp] theorem breakChase_seq : (s.breakChase).seq = s.seq := rfl
@[simp] theorem breakChase_map : (s.breakChase).map = s.map := rfl
@[simp] theorem breakChase_marks : (s.breakChase).marks = s.marks := rfl
@[simp] theorem breakChase_locate : (s.breakChase).locate = s.locate := rfl
@[simp] theorem breakChase_prot : (s.breakChase).prot = s.prot := rfl
@[simp] theorem breakChase_tapePath : (s.breakChase).tapePath = s.tapePath := rfl
@[simp] theorem breakChase_due : (s.breakChase).due = s.due := rfl
@[simp] theorem breakChase_draws : (s.breakChase).draws = s.draws := rfl
@[simp] theorem breakChase_pending : (s.breakChase).pending = s.pending := rfl

/-! ### `State.pushReturn` -/

@[simp] theorem pushReturn_geom (r : MotionReq) : (s.pushReturn r).geom = s.geom := by unfold State.pushReturn; split <;> simp
@[simp] theorem pushReturn_tension (r : MotionReq) : (s.pushReturn r).tension = s.tension := by unfold State.pushReturn; split <;> simp
@[simp] theorem pushReturn_speed (r : MotionReq) : (s.pushReturn r).speed = s.speed := by unfold State.pushReturn; split <;> simp
@[simp] theorem pushReturn_seq (r : MotionReq) : (s.pushReturn r).seq = s.seq := by unfold State.pushReturn; split <;> simp
@[simp] theorem pushReturn_map (r : MotionReq) : (s.pushReturn r).map = s.map := by unfold State.pushReturn; split <;> simp
@[simp] theorem pushReturn_marks (r : MotionReq) : (s.pushReturn r).marks = s.marks := by unfold State.pushReturn; split <;> simp
@[simp] theorem pushReturn_locate (r : MotionReq) : (s.pushReturn r).locate = s.locate := by unfold State.pushReturn; split <;> simp
@[simp] theorem pushReturn_prot (r : MotionReq) : (s.pushReturn r).prot = s.prot := by unfold State.pushReturn; split <;> simp
@[simp] theorem pushReturn_tapePath (r : MotionReq) : (s.pushReturn r).tapePath = s.tapePath := by unfold State.pushReturn; split <;> simp
@[simp] theorem pushReturn_due (r : MotionReq) : (s.pushReturn r).due = s.due := by unfold State.pushReturn; split <;> simp
@[simp] theorem pushReturn_draws (r : MotionReq) : (s.pushReturn r).draws = s.draws := by unfold State.pushReturn; split <;> simp
@[simp] theorem pushReturn_pending (r : MotionReq) : (s.pushReturn r).pending = s.pending := by unfold State.pushReturn; split <;> simp

/-! ### `State.chaseSpeed` -/

@[simp] theorem chaseSpeed_geom (v : Int) : (s.chaseSpeed v).1.geom = s.geom := by simp [State.chaseSpeed]
@[simp] theorem chaseSpeed_tension (v : Int) : (s.chaseSpeed v).1.tension = s.tension := by simp [State.chaseSpeed]
@[simp] theorem chaseSpeed_seq (v : Int) : (s.chaseSpeed v).1.seq = s.seq := by simp [State.chaseSpeed]
@[simp] theorem chaseSpeed_arb (v : Int) : (s.chaseSpeed v).1.arb = s.arb := by simp [State.chaseSpeed]
@[simp] theorem chaseSpeed_map (v : Int) : (s.chaseSpeed v).1.map = s.map := by simp [State.chaseSpeed]
@[simp] theorem chaseSpeed_marks (v : Int) : (s.chaseSpeed v).1.marks = s.marks := by simp [State.chaseSpeed]
@[simp] theorem chaseSpeed_locate (v : Int) : (s.chaseSpeed v).1.locate = s.locate := by simp [State.chaseSpeed]
@[simp] theorem chaseSpeed_prot (v : Int) : (s.chaseSpeed v).1.prot = s.prot := by simp [State.chaseSpeed]
@[simp] theorem chaseSpeed_tapePath (v : Int) : (s.chaseSpeed v).1.tapePath = s.tapePath := by simp [State.chaseSpeed]
@[simp] theorem chaseSpeed_due (v : Int) : (s.chaseSpeed v).1.due = s.due := by simp [State.chaseSpeed]
@[simp] theorem chaseSpeed_draws (v : Int) : (s.chaseSpeed v).1.draws = s.draws := by simp [State.chaseSpeed]
@[simp] theorem chaseSpeed_pending (v : Int) : (s.chaseSpeed v).1.pending = s.pending := by simp [State.chaseSpeed]

/-! ### `State.clearQualification` -/

@[simp] theorem clearQualification_seq : (s.clearQualification).seq = s.seq := rfl
@[simp] theorem clearQualification_arb : (s.clearQualification).arb = s.arb := rfl
@[simp] theorem clearQualification_map : (s.clearQualification).map = s.map := rfl
@[simp] theorem clearQualification_marks : (s.clearQualification).marks = s.marks := rfl
@[simp] theorem clearQualification_locate : (s.clearQualification).locate = s.locate := rfl
@[simp] theorem clearQualification_ports : (s.clearQualification).ports = s.ports := rfl
@[simp] theorem clearQualification_tapePath : (s.clearQualification).tapePath = s.tapePath := rfl
@[simp] theorem clearQualification_due : (s.clearQualification).due = s.due := rfl
@[simp] theorem clearQualification_draws : (s.clearQualification).draws = s.draws := rfl
@[simp] theorem clearQualification_pending : (s.clearQualification).pending = s.pending := rfl

/-! ### `State.countRoller` -/

@[simp] theorem countRoller_tension (d : Sense) : (s.countRoller d).tension = s.tension := rfl
@[simp] theorem countRoller_seq (d : Sense) : (s.countRoller d).seq = s.seq := rfl
@[simp] theorem countRoller_arb (d : Sense) : (s.countRoller d).arb = s.arb := rfl
@[simp] theorem countRoller_marks (d : Sense) : (s.countRoller d).marks = s.marks := rfl
@[simp] theorem countRoller_locate (d : Sense) : (s.countRoller d).locate = s.locate := rfl
@[simp] theorem countRoller_prot (d : Sense) : (s.countRoller d).prot = s.prot := rfl
@[simp] theorem countRoller_ports (d : Sense) : (s.countRoller d).ports = s.ports := rfl
@[simp] theorem countRoller_tapePath (d : Sense) : (s.countRoller d).tapePath = s.tapePath := rfl
@[simp] theorem countRoller_due (d : Sense) : (s.countRoller d).due = s.due := rfl
@[simp] theorem countRoller_draws (d : Sense) : (s.countRoller d).draws = s.draws := rfl
@[simp] theorem countRoller_pending (d : Sense) : (s.countRoller d).pending = s.pending := rfl

/-! ### `State.axisPeriod` -/

@[simp] theorem axisPeriod_geom (r : Reel) (a : Int) : (s.axisPeriod r a).1.geom = s.geom := by simp [State.axisPeriod]
@[simp] theorem axisPeriod_speed (r : Reel) (a : Int) : (s.axisPeriod r a).1.speed = s.speed := by simp [State.axisPeriod]
@[simp] theorem axisPeriod_seq (r : Reel) (a : Int) : (s.axisPeriod r a).1.seq = s.seq := by simp [State.axisPeriod]
@[simp] theorem axisPeriod_arb (r : Reel) (a : Int) : (s.axisPeriod r a).1.arb = s.arb := by simp [State.axisPeriod]
@[simp] theorem axisPeriod_map (r : Reel) (a : Int) : (s.axisPeriod r a).1.map = s.map := by simp [State.axisPeriod]
@[simp] theorem axisPeriod_marks (r : Reel) (a : Int) : (s.axisPeriod r a).1.marks = s.marks := by simp [State.axisPeriod]
@[simp] theorem axisPeriod_locate (r : Reel) (a : Int) : (s.axisPeriod r a).1.locate = s.locate := by simp [State.axisPeriod]
@[simp] theorem axisPeriod_prot (r : Reel) (a : Int) : (s.axisPeriod r a).1.prot = s.prot := by simp [State.axisPeriod]
@[simp] theorem axisPeriod_ports (r : Reel) (a : Int) : (s.axisPeriod r a).1.ports = s.ports := by simp [State.axisPeriod]
@[simp] theorem axisPeriod_tapePath (r : Reel) (a : Int) : (s.axisPeriod r a).1.tapePath = s.tapePath := by simp [State.axisPeriod]
@[simp] theorem axisPeriod_draws (r : Reel) (a : Int) : (s.axisPeriod r a).1.draws = s.draws := by simp [State.axisPeriod]
@[simp] theorem axisPeriod_pending (r : Reel) (a : Int) : (s.axisPeriod r a).1.pending = s.pending := by simp [State.axisPeriod]

/-! ### `State.capstanPeriod` -/

@[simp] theorem capstanPeriod_geom : (s.capstanPeriod).geom = s.geom := by unfold State.capstanPeriod; split <;> simp
@[simp] theorem capstanPeriod_tension : (s.capstanPeriod).tension = s.tension := by unfold State.capstanPeriod; split <;> simp
@[simp] theorem capstanPeriod_seq : (s.capstanPeriod).seq = s.seq := by unfold State.capstanPeriod; split <;> simp
@[simp] theorem capstanPeriod_arb : (s.capstanPeriod).arb = s.arb := by unfold State.capstanPeriod; split <;> simp
@[simp] theorem capstanPeriod_map : (s.capstanPeriod).map = s.map := by unfold State.capstanPeriod; split <;> simp
@[simp] theorem capstanPeriod_marks : (s.capstanPeriod).marks = s.marks := by unfold State.capstanPeriod; split <;> simp
@[simp] theorem capstanPeriod_locate : (s.capstanPeriod).locate = s.locate := by unfold State.capstanPeriod; split <;> simp
@[simp] theorem capstanPeriod_prot : (s.capstanPeriod).prot = s.prot := by unfold State.capstanPeriod; split <;> simp
@[simp] theorem capstanPeriod_ports : (s.capstanPeriod).ports = s.ports := by unfold State.capstanPeriod; split <;> simp
@[simp] theorem capstanPeriod_tapePath : (s.capstanPeriod).tapePath = s.tapePath := by unfold State.capstanPeriod; split <;> simp
@[simp] theorem capstanPeriod_draws : (s.capstanPeriod).draws = s.draws := by unfold State.capstanPeriod; split <;> simp
@[simp] theorem capstanPeriod_pending : (s.capstanPeriod).pending = s.pending := by unfold State.capstanPeriod; split <;> simp

/-! ### `State.testOverspeed` -/

@[simp] theorem testOverspeed_geom (r : Reel) : (s.testOverspeed r).geom = s.geom := by simp [State.testOverspeed]
@[simp] theorem testOverspeed_tension (r : Reel) : (s.testOverspeed r).tension = s.tension := by simp [State.testOverspeed]
@[simp] theorem testOverspeed_seq (r : Reel) : (s.testOverspeed r).seq = s.seq := by simp [State.testOverspeed]
@[simp] theorem testOverspeed_arb (r : Reel) : (s.testOverspeed r).arb = s.arb := by simp [State.testOverspeed]
@[simp] theorem testOverspeed_map (r : Reel) : (s.testOverspeed r).map = s.map := by simp [State.testOverspeed]
@[simp] theorem testOverspeed_marks (r : Reel) : (s.testOverspeed r).marks = s.marks := by simp [State.testOverspeed]
@[simp] theorem testOverspeed_locate (r : Reel) : (s.testOverspeed r).locate = s.locate := by simp [State.testOverspeed]
@[simp] theorem testOverspeed_prot (r : Reel) : (s.testOverspeed r).prot = s.prot := by simp [State.testOverspeed]
@[simp] theorem testOverspeed_ports (r : Reel) : (s.testOverspeed r).ports = s.ports := by simp [State.testOverspeed]
@[simp] theorem testOverspeed_tapePath (r : Reel) : (s.testOverspeed r).tapePath = s.tapePath := by simp [State.testOverspeed]
@[simp] theorem testOverspeed_draws (r : Reel) : (s.testOverspeed r).draws = s.draws := by simp [State.testOverspeed]
@[simp] theorem testOverspeed_pending (r : Reel) : (s.testOverspeed r).pending = s.pending := by simp [State.testOverspeed]

/-! ### What the updates write -/

@[simp] theorem onPort_port (p : Port) (f : PortState → PortState) : (s.onPort p f).ports.port p = f (s.ports.port p) := by
  cases p <;> rfl
theorem onPort_other (p q : Port) (f : PortState → PortState) (h : q ≠ p) :
    (s.onPort p f).ports.port q = s.ports.port q := by
  cases p <;> cases q <;> simp_all [State.onPort, PortUnit.onPort, PortUnit.port]
@[simp] theorem onPort_params (p : Port) (f : PortState → PortState) : (s.onPort p f).ports.params = s.ports.params := by
  cases p <;> rfl
@[simp] theorem raiseOn_params (p : Port) (f : Flag) : (s.raiseOn p f).ports.params = s.ports.params := onPort_params s p _
@[simp] theorem raise_params (f : Flag) : (s.raise f).ports.params = s.ports.params := rfl
@[simp] theorem raiseIf_params (b : Bool) (f : Flag) : (s.raiseIf b f).ports.params = s.ports.params := by
  unfold State.raiseIf; split <;> rfl
@[simp] theorem announce_params (cs : List Change) : (s.announce cs).ports.params = s.ports.params := by
  unfold State.announce; split <;> simp
@[simp] theorem mapEvent_params (e : Learned) : (s.mapEvent e).ports.params = s.ports.params := by
  simp [State.mapEvent]
@[simp] theorem dropPending_params : s.dropPending.ports.params = s.ports.params := by
  unfold State.dropPending; split <;> simp
@[simp] theorem readSwitch_tapePath (w : Switch) : (s.readSwitch w).tapePath = w := rfl
@[simp] theorem setActive_active (m : Option Motion) : (s.setActive m).arb.active = m := rfl
@[simp] theorem setActive_returns (m : Option Motion) : (s.setActive m).arb.returns = s.arb.returns := rfl
@[simp] theorem setActive_chase (m : Option Motion) : (s.setActive m).arb.chase = s.arb.chase := rfl
@[simp] theorem setActive_slot (m : Option Motion) : (s.setActive m).arb.slot = s.arb.slot := rfl
@[simp] theorem setActive_chaseLine (m : Option Motion) : (s.setActive m).arb.chaseLine = s.arb.chaseLine := rfl
@[simp] theorem setRecord_active (m : Motion) : (s.setRecord m).arb.active = some m := rfl
@[simp] theorem setRecord_returns (m : Motion) : (s.setRecord m).arb.returns = s.arb.returns := rfl
@[simp] theorem setRecord_chase (m : Motion) : (s.setRecord m).arb.chase = s.arb.chase := rfl
@[simp] theorem setRecord_slot (m : Motion) : (s.setRecord m).arb.slot = s.arb.slot := rfl
@[simp] theorem setRecord_chaseLine (m : Motion) : (s.setRecord m).arb.chaseLine = s.arb.chaseLine := rfl
@[simp] theorem setSlot_slot (h : Option Held) : (s.setSlot h).arb.slot = h := rfl
@[simp] theorem setSlot_active (h : Option Held) : (s.setSlot h).arb.active = s.arb.active := rfl
@[simp] theorem setSlot_chase (h : Option Held) : (s.setSlot h).arb.chase = s.arb.chase := rfl
@[simp] theorem setSlot_chaseLine (h : Option Held) : (s.setSlot h).arb.chaseLine = s.arb.chaseLine := rfl
@[simp] theorem setSlot_returns (h : Option Held) : (s.setSlot h).arb.returns = s.arb.returns := rfl
@[simp] theorem setChase_chase (c : ChaseState) : (s.setChase c).arb.chase = c := rfl
@[simp] theorem setChase_active (c : ChaseState) : (s.setChase c).arb.active = s.arb.active := rfl
@[simp] theorem setChase_slot (c : ChaseState) : (s.setChase c).arb.slot = s.arb.slot := rfl
@[simp] theorem setChase_chaseLine (c : ChaseState) : (s.setChase c).arb.chaseLine = s.arb.chaseLine := rfl
@[simp] theorem setChase_returns (c : ChaseState) : (s.setChase c).arb.returns = s.arb.returns := rfl
@[simp] theorem setChaseLine_chaseLine (b : Bool) : (s.setChaseLine b).arb.chaseLine = b := rfl
@[simp] theorem setChaseLine_chase (b : Bool) : (s.setChaseLine b).arb.chase = s.arb.chase := rfl
@[simp] theorem setChaseLine_active (b : Bool) : (s.setChaseLine b).arb.active = s.arb.active := rfl
@[simp] theorem setChaseLine_slot (b : Bool) : (s.setChaseLine b).arb.slot = s.arb.slot := rfl
@[simp] theorem setChaseLine_returns (b : Bool) : (s.setChaseLine b).arb.returns = s.arb.returns := rfl
@[simp] theorem setReturns_returns (rs : List ReturnEntry) : (s.setReturns rs).arb.returns = rs := rfl
@[simp] theorem setReturns_active (rs : List ReturnEntry) : (s.setReturns rs).arb.active = s.arb.active := rfl
@[simp] theorem setReturns_chase (rs : List ReturnEntry) : (s.setReturns rs).arb.chase = s.arb.chase := rfl
@[simp] theorem setReturns_slot (rs : List ReturnEntry) : (s.setReturns rs).arb.slot = s.arb.slot := rfl
@[simp] theorem setReturns_chaseLine (rs : List ReturnEntry) : (s.setReturns rs).arb.chaseLine = s.arb.chaseLine := rfl
@[simp] theorem dropPending_slot : s.dropPending.arb.slot = none := by
  unfold State.dropPending; split <;> simp_all
@[simp] theorem dropPending_active : s.dropPending.arb.active = s.arb.active := by
  unfold State.dropPending; split <;> simp
@[simp] theorem dropPending_chase : s.dropPending.arb.chase = s.arb.chase := by
  unfold State.dropPending; split <;> simp
@[simp] theorem dropPending_chaseLine : s.dropPending.arb.chaseLine = s.arb.chaseLine := by
  unfold State.dropPending; split <;> simp
@[simp] theorem dropPending_returns : s.dropPending.arb.returns = s.arb.returns := by
  unfold State.dropPending; split <;> simp
@[simp] theorem setLocate_active (r : LocateRecord) : (s.setLocate r).locate.active = some r := rfl
@[simp] theorem setLocate_result (r : LocateRecord) : (s.setLocate r).locate.result = s.locate.result := rfl
@[simp] theorem setLocate_verifyTimer (r : LocateRecord) : (s.setLocate r).locate.verifyTimer = s.locate.verifyTimer := rfl
@[simp] theorem setLocate_located (r : LocateRecord) : (s.setLocate r).locate.located = s.locate.located := rfl
@[simp] theorem endLocate_active (o : LocateOutcome) : (s.endLocate o).locate.active = none := by
  unfold State.endLocate; split <;> simp_all
@[simp] theorem endLocate_located (o : LocateOutcome) : (s.endLocate o).locate.located = s.locate.located := by
  unfold State.endLocate; split <;> simp_all
@[simp] theorem pulseLocated_located (b : Bool) : (s.pulseLocated b).locate.located = (s.locate.located || b) := rfl
@[simp] theorem pulseLocated_active (b : Bool) : (s.pulseLocated b).locate.active = s.locate.active := rfl
@[simp] theorem endPulse_located : s.endPulse.locate.located = false := rfl
@[simp] theorem setSpeed_speed (v : Speed) : (s.setSpeed v).speed = v := rfl
@[simp] theorem headToward_speed (b : Bool) (l : Int) : (s.headToward b l).speed = s.speed.giveStopPoint b l := rfl
@[simp] theorem setLoop_speed (l : CapstanLoop) : (s.setLoop l).speed = { s.speed with loop := l } := rfl
@[simp] theorem setRatio_speed (v : Int) : (s.setRatio v).speed = { s.speed with chaseRatio := v } := rfl
@[simp] theorem setRequested_speed (v : Int) : (s.setRequested v).speed = { s.speed with requested := v } := rfl
@[simp] theorem setGeom_geom (g : Geometry) : (s.setGeom g).geom = g := rfl
@[simp] theorem setMap_map (m : MapUnit) : (s.setMap m).map = m := rfl
@[simp] theorem setMarks_marks (ms : List Mark) : (s.setMarks ms).marks = ms := rfl
@[simp] theorem setDue_due (ds : List Due) : (s.setDue ds).due = ds := rfl
@[simp] theorem mapEvent_map (e : Learned) : (s.mapEvent e).map = e.map := by simp [State.mapEvent]
@[simp] theorem setAxis_axes (r : Reel) (a : Axis) : (s.setAxis r a).tension.axes = s.tension.axes.set r a := rfl
@[simp] theorem cancelCreep_transport : s.cancelCreep.seq.transport = s.seq.transport := rfl
@[simp] theorem seeLeader_transport (l : Leader) : (s.seeLeader l).seq.transport = s.seq.transport := rfl
@[simp] theorem seeLeader_leaderSeen (l : Leader) : (s.seeLeader l).seq.leaderSeen = l := rfl
@[simp] theorem setAsserted_params (b : Bool) : (s.setAsserted b).ports.params = s.ports.params := rfl
@[simp] theorem setStudioRx_params (r : RxState) : (s.setStudioRx r).ports.params = s.ports.params := rfl
@[simp] theorem setLinkRx_params (r : LinkRx) : (s.setLinkRx r).ports.params = s.ports.params := rfl
@[simp] theorem setLinkRx_linkRx (r : LinkRx) : (s.setLinkRx r).ports.linkRx = r := rfl
@[simp] theorem setTransport_transport (t : Transport) (d : Option RestDest) :
    (s.setTransport t d).seq.transport = t := rfl
@[simp] theorem setTransport_restDest (t : Transport) (d : Option RestDest) : (s.setTransport t d).seq.restDest = d := rfl
@[simp] theorem setTransport_leaderSeen (t : Transport) (d : Option RestDest) :
    (s.setTransport t d).seq.leaderSeen = s.seq.leaderSeen := rfl
@[simp] theorem setTransport_outputs (t : Transport) (d : Option RestDest) :
    (s.setTransport t d).seq.outputs = t.outputs (s.speed.onChange s.seq.transport t).kind := rfl
@[simp] theorem setTransport_speed (t : Transport) (d : Option RestDest) :
    (s.setTransport t d).speed = s.speed.onChange s.seq.transport t := rfl
@[simp] theorem setTransport_geom (t : Transport) (d : Option RestDest) :
    (s.setTransport t d).geom = s.geom.onChange s.seq.transport t := rfl
@[simp] theorem setTransport_tension (t : Transport) (d : Option RestDest) :
    (s.setTransport t d).tension = s.tension.onChange s.seq.transport t := rfl
@[simp] theorem setTransport_map (t : Transport) (d : Option RestDest) :
    (s.setTransport t d).map = s.map.onChange s.seq.transport t := rfl
@[simp] theorem setTransport_report (t : Transport) (d : Option RestDest) :
    (s.setTransport t d).prot.report = s.prot.report := rfl
@[simp] theorem setTransport_unread (t : Transport) (d : Option RestDest) :
    (s.setTransport t d).prot.unread = s.prot.unread := rfl
@[simp] theorem setTransport_active (t : Transport) (d : Option RestDest) :
    (s.setTransport t d).locate.active = s.locate.active := rfl

/-! ### Pairs -/

@[simp] theorem Pair.get_set_same {α : Type} (p : Pair α) (r : Reel) (a : α) : (p.set r a).get r = a := by
  cases r <;> rfl
@[simp] theorem Pair.get_map {α β : Type} (p : Pair α) (f : α → β) (r : Reel) : (p.map f).get r = f (p.get r) := by
  cases r <;> rfl
@[simp] theorem Pair.get_modify_same {α : Type} (p : Pair α) (r : Reel) (f : α → α) :
    (p.modify r f).get r = f (p.get r) := by
  cases r <;> rfl
theorem Pair.get_set_other {α : Type} (p : Pair α) (r q : Reel) (a : α) (h : q ≠ r) : (p.set r a).get q = p.get q := by
  cases r <;> cases q <;> simp_all [Pair.set, Pair.get]

end Sys2Proof.Machine
end

