-- ==== Sys2Proof/Laws/Flags.lean ====
section
/-! SUPPORT. The flag sets (R199): what raising a flag does to every flag of every port, said once for each raising
operation. -/

namespace Sys2Proof.Machine

theorem Flag.set_getLsbD (g f : Flag) : g.set.getLsbD f.bit = decide (f = g) := by cases f <;> cases g <;> decide

theorem Flag.bit_lt (f : Flag) : f.bit < 13 := by cases f <;> decide

theorem PortState.has_raise (g f : Flag) (p : PortState) : (p.raise g).has f = (p.has f || decide (f = g)) := by
  simp [PortState.raise, PortState.has, Flag.set_getLsbD]

/-- Raising on one port sets that flag there and no other. -/
theorem raiseOn_has (s : State) (q : Port) (g : Flag) (p : Port) (f : Flag) :
    ((s.raiseOn q g).ports.port p).has f = ((s.ports.port p).has f || (decide (p = q) && decide (f = g))) := by
  cases p <;> cases q <;>
    simp [State.raiseOn, State.onPort, PortUnit.onPort, PortUnit.port, PortState.has_raise]

/-- Raising on both ports sets that flag in both sets and no other. -/
theorem raise_has (s : State) (g : Flag) (p : Port) (f : Flag) :
    ((s.raise g).ports.port p).has f = ((s.ports.port p).has f || decide (f = g)) := by
  cases p <;> simp [State.raise, raiseOn_has]

theorem raiseIf_has (s : State) (b : Bool) (g : Flag) (p : Port) (f : Flag) :
    ((s.raiseIf b g).ports.port p).has f = ((s.ports.port p).has f || (b && decide (f = g))) := by
  unfold State.raiseIf
  cases b <;> simp [raise_has]

/-- Raising changes the ports alone. -/
theorem raise_eq (s : State) (g : Flag) : s.raise g = { s with ports := (s.raise g).ports } := rfl

theorem raiseOn_eq (s : State) (p : Port) (g : Flag) : s.raiseOn p g = { s with ports := (s.raiseOn p g).ports } := rfl

theorem raiseIf_eq (s : State) (b : Bool) (g : Flag) : s.raiseIf b g = { s with ports := (s.raiseIf b g).ports } := by
  unfold State.raiseIf
  split <;> rfl

/-- An attention line is high exactly when some flag is both set and enabled, bit by bit (R201). -/
theorem attention_bits (p : PortState) :
    p.attention = true ↔ ∃ i : Nat, i < 13 ∧ p.flags.getLsbD i = true ∧ p.mask.getLsbD i = true := by
  unfold PortState.attention
  rw [bne_iff_ne, ← not_iff_not, not_not]
  constructor
  · rintro h ⟨i, -, h2, h3⟩
    have := congrArg (fun b => b.getLsbD i) h
    simp [h2, h3] at this
  · intro h
    apply BitVec.eq_of_getLsbD_eq
    intro i hi
    have := fun h1 h2 => h ⟨i, hi, h1, h2⟩
    simp only [BitVec.getLsbD_and]
    cases h1 : p.flags.getLsbD i <;> cases h2 : p.mask.getLsbD i <;> simp_all

/-- CLEAR_FLAGS on one port, flag by flag (R200). -/
theorem PortState.clearFlags_has (clear : BitVec 13) (mask : Option (BitVec 13)) (p : PortState) (f : Flag) :
    (p.clearFlags clear mask).has f = (p.has f && !clear.getLsbD f.bit) := by
  simp [PortState.clearFlags, PortState.has, f.bit_lt]

end Sys2Proof.Machine
end

