-- ==== Sys2Proof/Laws/Demands.lean ====
section
/-! SUPPORT. Taking a cause (R175 to R184): what the capture, the end of everything in progress, and the stop and fault
demands do, said once each. -/

namespace Sys2Proof.Machine

/-- A capture writes the protection unit alone and leaves a report held unread (R184): the cause's own when none stood
unread. -/
theorem capture_spec (s : State) (c : Cause) (a : CauseAxis) :
    ∃ q, s.capture c a = { s with prot := { s.prot with report := some q, unread := true } }
      ∧ ((s.prot.report = none ∨ s.prot.unread = false) → q = s.snapshot c a)
      ∧ ∀ r, s.prot.report = some r → s.prot.unread = true → q = { r with later := addCause c r.later } := by
  unfold State.capture
  split
  · rename_i r h1 h2
    refine ⟨{ r with later := addCause c r.later }, by rw [← h2], ?_, ?_⟩
    · rintro (h | h) <;> simp_all
    · intro r' h _; rw [h1] at h; cases h; rfl
  · rename_i hne
    refine ⟨_, rfl, fun _ => rfl, fun r h1 h2 => absurd h2 ?_⟩
    exact fun h2 => hne r h1 h2

theorem dropPending_has {s : State} {p : Port} {f : Flag} (h : (s.ports.port p).has f = true) :
    (s.dropPending.ports.port p).has f = true := by
  unfold State.dropPending
  split
  · exact h
  · rw [raiseOn_has]; simpa using Or.inl h

/-- The chase, the pending request, the locate and the active motion ended by a protection stop or fault (R84, R93, R102,
R172). -/
structure EndedBy (s t : State) : Prop where
  geom : t.geom = s.geom
  tension : t.tension = s.tension
  speed : t.speed = s.speed
  seq : t.seq = s.seq
  map : t.map = s.map
  marks : t.marks = s.marks
  prot : t.prot = s.prot
  due : t.due = s.due
  params : t.ports.params = s.ports.params
  returns : t.arb.returns = s.arb.returns
  line : t.arb.chaseLine = s.arb.chaseLine
  active : t.arb.active = none
  slot : t.arb.slot = none
  locate : t.locate.active = none
  chase : t.arb.chase = if s.chaseHolds then s.arb.afterChase else s.arb.chase
  broken : s.chaseHolds = true → ∀ p, (t.ports.port p).has .chaseBroken = true

theorem endByProtection_spec (s : State) : EndedBy s s.endByProtection := by
  unfold State.endByProtection
  have key : ∀ u : State,
      u.geom = s.geom → u.tension = s.tension → u.speed = s.speed → u.seq = s.seq → u.map = s.map → u.marks = s.marks →
      u.prot = s.prot → u.due = s.due → u.ports.params = s.ports.params → u.arb.returns = s.arb.returns →
      u.arb.chaseLine = s.arb.chaseLine → u.arb.chase = (if s.chaseHolds then s.arb.afterChase else s.arb.chase) →
      (s.chaseHolds = true → ∀ p, (u.ports.port p).has .chaseBroken = true) →
      EndedBy s ((u.dropPending.endLocate .protection).setActive none) := by
    intro u h1 h2 h3 h4 h5 h6 h7 h8 h9 h10 h11 h12 h13
    constructor <;> try simp [*]
    intro hc p
    exact dropPending_has (h13 hc p)
  cases hc : s.chaseHolds
  · simp only [Bool.false_eq_true, if_false]
    exact key s rfl rfl rfl rfl rfl rfl rfl rfl rfl rfl rfl (by simp [hc]) (by simp [hc])
  · simp only [if_true]
    refine key s.breakChase rfl rfl rfl rfl rfl rfl rfl rfl (by simp [State.breakChase]) rfl rfl (by simp [hc, State.breakChase]) ?_
    intro _ p
    simp [State.breakChase, raise_has]

/-- A raised event taken hands its cause to the protection unit and is raised no more (log entry 3). -/
theorem takeDue_of_mem {s : State} {d : Due} (h : d ∈ s.due) :
    s.takeDue d = (s.setDue (s.due.erase d)).takeCause d.cause.1 d.cause.2 := by
  unfold State.takeDue
  rw [if_pos (by simpa using h)]

/-- An event that has not been raised does nothing. -/
theorem takeDue_of_not_mem {s : State} {d : Due} (h : d ∉ s.due) : s.takeDue d = s := by
  unfold State.takeDue
  rw [if_neg (by simpa using h)]

@[simp] theorem takeCause_due (s : State) (c : Cause) (a : CauseAxis) : (s.takeCause c a).due = s.due := by
  unfold State.takeCause
  split
  · rfl
  · dsimp only
    have hs : ∀ u : State, u.stopDemand.due = u.due := by
      intro u; unfold State.stopDemand
      split <;> simp [State.enterUnthreading, State.enterProtectStop, (endByProtection_spec _).due]
    have hf : ∀ u : State, u.faultDemand.due = u.due := by
      intro u; unfold State.faultDemand
      split <;> simp [State.enterFaulted, (endByProtection_spec _).due]
    split <;> simp [hs, hf]

@[simp] theorem takeDue_due (s : State) (d : Due) : (s.takeDue d).due = s.due.erase d := by
  by_cases h : d ∈ s.due
  · rw [takeDue_of_mem h]; simp
  · rw [takeDue_of_not_mem h, List.erase_of_not_mem h]

/-- With no caught start waiting there is nothing to take before a command (R178). -/
theorem takeCatches_of_not_mem {s : State} (h : Due.extStopCatch ∉ s.due) : s.takeCatches = s := by
  have hf : s.due.filter (fun d => decide (d = .extStopCatch)) = [] := by
    rw [List.filter_eq_nil_iff]; intro d hd; simp; rintro rfl; exact h hd
  simp [State.takeCatches, hf]

/-- A caught start that waits is taken first (R178). -/
theorem takeCatches_of_mem {s : State} (h : Due.extStopCatch ∈ s.due) :
    s.takeCatches = (s.takeDue .extStopCatch).takeCatches := by
  have hr : ∀ ds : List Due, ds.filter (fun d => decide (d = .extStopCatch))
      = List.replicate (ds.count .extStopCatch) .extStopCatch := by
    intro ds
    induction ds with
    | nil => rfl
    | cons d ds ih => by_cases hd : d = .extStopCatch <;> simp [hd, List.replicate_succ, ih]
  have hn : ∃ n, s.due.count Due.extStopCatch = n + 1 :=
    ⟨s.due.count .extStopCatch - 1, by have := List.count_pos_iff.mpr h; omega⟩
  obtain ⟨n, hn⟩ := hn
  simp only [State.takeCatches, hr, takeDue_due, List.count_erase_self, hn]
  simp [List.replicate_succ]

/-- Taken catches leave none waiting, and every other raised event as it stood (R178). -/
theorem takeCatches_due (s : State) :
    s.takeCatches.due = s.due.filter (fun d => decide (d ≠ .extStopCatch)) := by
  generalize hn : s.due.count .extStopCatch = n
  induction n generalizing s with
  | zero =>
    have h : Due.extStopCatch ∉ s.due := List.count_eq_zero.mp hn
    rw [takeCatches_of_not_mem h, List.filter_eq_self.mpr]
    intro d hd; simp; rintro rfl; exact h hd
  | succ n ih =>
    have h : Due.extStopCatch ∈ s.due := List.count_pos_iff.mp (by omega)
    rw [takeCatches_of_mem h, ih _ (by simp [List.count_erase_self, hn])]
    rw [takeDue_due]
    have : ∀ ds : List Due, (ds.erase .extStopCatch).filter (fun d => decide (d ≠ .extStopCatch))
        = ds.filter (fun d => decide (d ≠ .extStopCatch)) := by
      intro ds
      induction ds with
      | nil => rfl
      | cons d ds ih2 =>
        by_cases hd : d = .extStopCatch
        · subst hd; simp
        · rw [List.erase_cons_tail (by simpa using hd)]
          simp [hd]
          simpa using ih2
    exact this _

/-- The command of a raised event takes it, a caught start first (log entry 3, R178). -/
theorem exec_command {d : Due} (hd : d ≠ .extStopCatch) (s : State) :
    exec d.command s = .next (s.takeCatches.takeDue d) := by
  cases d <;> first | rfl | exact absurd rfl hd

/-- Every command but its own row's and DEVICE_RESET takes a caught start before its own effect (R178). -/
theorem exec_takes_catch {c : Instr} (hc : c ≠ .extStopLevelCatch) (hr : ∀ l, c ≠ .deviceReset l) {s : State}
    (h : Due.extStopCatch ∈ s.due) : exec c s = exec c (s.takeDue .extStopCatch) := by
  have e := takeCatches_of_mem h
  cases c <;> first
    | exact absurd rfl hc
    | exact absurd rfl (hr _)
    | (simp only [exec, execPanelDeassertion, execStudioFrameArrival, execStudioGapTimeout, execStudioFramingError,
        execStudioResponseSent, execAddressLinkFrame, execLostSync, execLinkGapTimeout, execLinkFramingError,
        execRollerCount, execGapCountLimit, execReelCount, execRejectCountLimit, execCapstanCount, execAxisServoPeriod,
        execSaturationCountLimit, execLowCountLimit, execHighCountLimit, execCapstanServoPeriod,
        execCapstanSaturationLimit, execProfileGeneratorPeriod, execOverspeedCountLimit, execTapeOutCountLimit,
        execThreadingTimerExpiry, execMeasuringTimerExpiry, execSettleTimerExpiry, execEngageTimerExpiry,
        execVerifyTimerExpiry, execLocatedPulseEnd, execLeaderSensorChange, execExternalStopLineChange,
        execChaseRequestRise, execChaseRequestFall, execChipSelectAssertion, execRequestStartByte, execSyncByte, e])

/-- A fault demand outside UNTHREADED and FAULTED enters FAULTED (R78). -/
theorem faultDemand_eq {s : State} (h : s.seq.transport.isForced = false) : s.faultDemand = s.enterFaulted := by
  unfold State.faultDemand
  rw [h]; rfl

/-- A stop demand in the states under tension but PROTECT_STOP enters PROTECT_STOP (R77). -/
theorem stopDemand_eq {s : State} (h : s.seq.transport.counting = true) (hp : s.seq.transport ≠ .protectStop) :
    s.stopDemand = s.enterProtectStop := by
  unfold State.stopDemand
  cases ht : s.seq.transport <;> simp_all [Transport.counting]

/-- A stop demand changes nothing in PROTECT_STOP, UNTHREADING, FAULTED and UNTHREADED (R77). -/
theorem stopDemand_none {s : State}
    (h : s.seq.transport = .protectStop ∨ s.seq.transport = .unthreading ∨ s.seq.transport = .faulted
      ∨ s.seq.transport = .unthreaded) : s.stopDemand = s := by
  unfold State.stopDemand
  rcases h with h | h | h | h <;> rw [h]

end Sys2Proof.Machine
end

