-- ==== Sys2Proof/Laws/Frames.lean ====
section
/-! SUPPORT. Frames and responses (R188 to R191, R196): the slots of a whole and of a cut frame, the byte sum, and what a
response release does. -/

namespace Sys2Proof.Machine

/-- The slots of a frame read back from its bytes, with what follows them. -/
theorem takeSlots_whole (slots : List Slot) (more : List Byte)
    (h : ∀ x ∈ slots, x.kind < 256 ∧ x.condition < 256 ∧ x.ops.length < 256) :
    takeSlots slots.length (slots.flatMap Slot.bytes ++ more) = some (slots, more) := by
  induction slots with
  | nil => simp [takeSlots]
  | cons x rest ih =>
    have hx := h x (by simp)
    have ih := ih (fun y hy => h y (by simp [hy]))
    have e : (BitVec.ofNat 8 x.ops.length).toNat = x.ops.length := by simp [Nat.mod_eq_of_lt hx.2.2]
    simp only [List.length_cons, List.flatMap_cons, Slot.bytes, List.append_assoc, List.cons_append, List.nil_append,
      takeSlots, e]
    simp [ih, Nat.mod_eq_of_lt hx.1, Nat.mod_eq_of_lt hx.2.1]

/-- A frame cut within its slots gives none. -/
theorem takeSlots_cut (slots : List Slot) (m : Nat)
    (h : ∀ x ∈ slots, x.kind < 256 ∧ x.condition < 256 ∧ x.ops.length < 256)
    (hm : m < (slots.flatMap Slot.bytes).length) :
    takeSlots slots.length ((slots.flatMap Slot.bytes).take m) = none := by
  induction slots generalizing m with
  | nil => simp at hm
  | cons x rest ih =>
    have hx := h x (by simp)
    have e : (BitVec.ofNat 8 x.ops.length).toNat = x.ops.length := by simp [Nat.mod_eq_of_lt hx.2.2]
    simp only [List.length_cons, List.flatMap_cons, Slot.bytes, List.cons_append, List.nil_append] at hm ⊢
    match m, hm with
    | 0, _ => simp [takeSlots]
    | 1, _ => simp [takeSlots]
    | 2, _ => simp [takeSlots]
    | m + 3, hm =>
      simp only [List.take_succ_cons, takeSlots, e]
      split
      · rfl
      · rename_i hh
        simp only [List.length_take, List.length_append] at hh hm
        have := ih (m - x.ops.length) (fun y hy => h y (by simp [hy])) (by omega)
        rw [List.take_append, List.take_of_length_le (by omega : x.ops.length ≤ m)]
        simp [this]

theorem byteSum_append (a b : List Byte) : byteSum (a ++ b) = byteSum a + byteSum b := by
  have shift : ∀ (l : List Byte) (x : Byte), l.foldl (· + ·) x = x + l.foldl (· + ·) 0 := by
    intro l
    induction l with
    | nil => simp
    | cons y l ih =>
      intro x
      rw [List.foldl_cons, List.foldl_cons, ih (x + y), ih (0 + y), zero_add, add_assoc]
  unfold byteSum
  rw [List.foldl_append, shift]

@[simp] theorem byteSum_singleton (b : Byte) : byteSum [b] = b := by simp [byteSum]

theorem frameBody_length (tag : Byte) (slots : List Slot) :
    (frameBody tag slots).length = 2 + (slots.flatMap Slot.bytes).length := by
  simp only [frameBody, List.length_cons]; omega

theorem frameExtent_eq (slots : List Slot) : frameExtent slots = 3 + (slots.flatMap Slot.bytes).length := by
  unfold frameExtent
  congr 1
  induction slots with
  | nil => rfl
  | cons x r ih => simp only [List.map_cons, List.sum_cons, List.flatMap_cons, List.length_append, ih]; simp [Slot.bytes]; omega

/-- The count byte of 1 to 4 slots, as a number. -/
theorem slotCount_toNat {slots : List Slot} (h : FitsFrame slots) :
    (BitVec.ofNat 8 slots.length).toNat = slots.length ∧ BitVec.ofNat 8 slots.length ≠ 0 := by
  have e : (BitVec.ofNat 8 slots.length).toNat = slots.length := by
    have := h.2.1
    simp; omega
  refine ⟨e, fun h0 => ?_⟩
  rw [h0] at e
  exact absurd h.1 (by rw [← e]; decide)

/-- The held response judged at a deassertion (R188). -/
theorem judgeRead_eq (n : Nat) (p : PortState) :
    p.judgeRead n = { p with held := p.held.filter (fun b => decide (n < b.length)) } := by
  obtain ⟨held, flags, mask⟩ := p
  unfold PortState.judgeRead
  cases held with
  | none => rfl
  | some b => by_cases hb : b.length ≤ n <;> simp [hb, Option.filter, show (n < b.length) = ¬ b.length ≤ n by simp]

/-- A frame arriving over a held response (R190), port by port. -/
theorem loseHeld_eq (port : Port) (s : State) :
    s.loseHeld port = s.onPort port (fun p =>
      { p with held := none, flags := p.flags ||| (if p.held.isSome then Flag.responseLost.set else 0#13) }) := by
  unfold State.loseHeld
  rcases s with ⟨_, _, _, _, _, _, _, _, _, ⟨⟨ph, _, _⟩, ⟨sh, _, _⟩, _, _, _, _⟩, _, _, _, _⟩
  cases port
  · cases ph <;> simp [State.onPort, PortUnit.onPort, PortUnit.port, State.raiseOn, PortState.raise]
  · cases sh <;> simp [State.onPort, PortUnit.onPort, PortUnit.port, State.raiseOn, PortState.raise]

end Sys2Proof.Machine
end

