-- ==== Sys2Proof/Laws/Transport.lean ====
section
/-! SUPPORT. THE change of transport state (R61), block by block: what `State.setTransport` does to each unit, in the form
in which a proof uses it. -/

namespace Sys2Proof.Machine

theorem sameState_self (t : Transport) : t.sameState t = true := by cases t <;> rfl

theorem Transport.counting_of {t : Transport} (h : t.isForced = false) (h1 : t ≠ .threading) (h2 : t ≠ .unthreading) :
    t.counting = true := by
  cases t <;> simp_all [Transport.isForced, Transport.counting]

/-- A change of phase within a state leaves the geometry unit as it is. -/
theorem setTransport_geom_same {s : State} {new : Transport} (d : Option RestDest)
    (h : s.seq.transport.sameState new = true) : (s.setTransport new d).geom = s.geom := by
  simp [State.setTransport, Geometry.onChange, h]

/-- Outside MEASURING a change to a state other than UNTHREADED keeps the head length. -/
theorem setTransport_head {s : State} {new : Transport} (d : Option RestDest) (h : s.seq.transport.isMeasuring = false)
    (hn : new ≠ .unthreaded) : (s.setTransport new d).geom.head = s.geom.head := by
  simp only [State.setTransport, Geometry.onChange, h]
  split
  · rfl
  · simp only [Bool.false_eq_true, if_false]
    split_ifs <;> rfl

/-- A change to a state other than UNTHREADED keeps the profiles and bindings. -/
theorem setTransport_profiles (s : State) (new : Transport) (d : Option RestDest) :
    (s.setTransport new d).geom.profiles = s.geom.profiles
      ∧ (new ≠ .unthreaded → (s.setTransport new d).geom.bound = s.geom.bound) := by
  simp only [State.setTransport, Geometry.onChange]
  split
  · exact ⟨rfl, fun _ => rfl⟩
  · split <;> split <;> split <;> simp_all [Geometry.leaveMeasuring, Geometry.unthread]

/-- A change between states that do not leave the reading set keeps the map. -/
theorem setTransport_keeps_map {s : State} {new : Transport} (d : Option RestDest)
    (h : s.seq.transport.reading = false ∨ new.reading = true) : (s.setTransport new d).map = s.map := by
  simp only [State.setTransport, MapUnit.onChange]
  rcases h with h | h <;> simp [h]

/-- A change to a state that is not forced keeps the protection unit. -/
theorem setTransport_keeps_prot {s : State} {new : Transport} (d : Option RestDest) (h : new.isForced = false) :
    (s.setTransport new d).prot = s.prot := by
  simp [State.setTransport, h]

/-- A change that is not forced carries the reference over (R60). -/
theorem setTransport_vRef {s : State} {new : Transport} (d : Option RestDest) (h : new.isForced = false) :
    (s.setTransport new d).speed.vRef = s.speed.vRef := by
  simp only [State.setTransport, Speed.onChange, h]
  split_ifs <;> simp_all [Speed.clearMeasured]

/-- Outside an entry to UNTHREADED through UNTHREADING the measurement histories and speeds run on (R60). -/
theorem setTransport_measured {s : State} {new : Transport} (d : Option RestDest)
    (h : s.seq.transport ≠ .unthreading ∨ new ≠ .unthreaded) :
    (s.setTransport new d).speed.roller = s.speed.roller ∧ (s.setTransport new d).speed.capstan = s.speed.capstan
      ∧ (s.setTransport new d).speed.reels = s.speed.reels ∧ (s.setTransport new d).speed.vMeas = s.speed.vMeas
      ∧ (s.setTransport new d).speed.vCap = s.speed.vCap
      ∧ (s.setTransport new d).speed.reelRate = s.speed.reelRate := by
  have hn : ¬(s.seq.transport = .unthreading ∧ new = .unthreaded) := by rcases h with h | h <;> simp [h]
  simp only [State.setTransport, Speed.onChange, if_neg hn]
  split_ifs <;> exact ⟨rfl, rfl, rfl, rfl, rfl, rfl⟩

/-- An entry to UNTHREADED through UNTHREADING leaves the speed unit at the values of the reset table, the chase ratio and the
requested speed kept (R60). -/
theorem setTransport_unthreaded_speed {s : State} (d : Option RestDest) (h : s.seq.transport = .unthreading) :
    (s.setTransport .unthreaded d).speed
      = { Speed.reset with chaseRatio := s.speed.chaseRatio, requested := s.speed.requested } := by
  simp [State.setTransport, Speed.onChange, h, Transport.genMode, Transport.capstanActive, Transport.isForced,
    Speed.force, Speed.clearMeasured, Speed.reset]

/-- An entry to a deceleration from another state or phase fixes its kind (R51). -/
theorem setTransport_kind {s : State} {new : Transport} (d : Option RestDest) (h : s.seq.transport ≠ new)
    (hm : new.genMode = .deceleration) : (s.setTransport new d).speed.kind = some s.speed.fixKind := by
  have hf : new.isForced = false := by cases new <;> simp_all [Transport.genMode, Transport.isForced]
  simp only [State.setTransport, Speed.onChange, if_neg h, hm, hf]
  split_ifs <;> simp_all [Speed.clearMeasured]

/-- An entry to UNTHREADED or FAULTED from outside it forces every drive (R33, R55, R60). -/
theorem setTransport_forced {s : State} {new : Transport} (d : Option RestDest) (h : new.isForced = true)
    (hs : s.seq.transport.sameState new = false) :
    (∀ r, ((s.setTransport new d).tension.axes.get r).word = 0
        ∧ ((s.setTransport new d).tension.axes.get r).released = false)
      ∧ (s.setTransport new d).speed.loop = .reset ∧ (s.setTransport new d).speed.vRef = 0 := by
  have hne : s.seq.transport ≠ new := fun e => by rw [e, sameState_self] at hs; cases hs
  refine ⟨fun r => ?_, ?_, ?_⟩
  · simp only [State.setTransport, Tension.onChange, hs, h]
    cases r <;> simp <;> split <;> exact ⟨rfl, rfl⟩
  · simp only [State.setTransport, Speed.onChange, if_neg hne, h]
    split_ifs <;> simp_all [Speed.force, Speed.clearMeasured]
  · simp only [State.setTransport, Speed.onChange, if_neg hne, h]
    split_ifs <;> simp_all [Speed.force, Speed.clearMeasured]

end Sys2Proof.Machine
end

