-- ==== Sys2Proof/Laws/Judging.lean ====
section
/-! SUPPORT. Judging motion requests (R83 to R92): when the tests pass, and what an examination and an entry to STOPPED do
when nothing waits. -/

namespace Sys2Proof.Machine

/-- An examination does nothing unless the protocol is WAITING (R95). -/
theorem examineChase_of_not_waiting {s : State} (h : s.arb.chase ≠ .waiting) : s.examineChase = s := by
  unfold State.examineChase State.chaseGrantable
  rw [if_neg (by simp [h])]

/-- An examination does nothing in a state from which no chase is granted (R95). -/
theorem examineChase_of_state {s : State} (h : s.seq.transport ≠ .stopped)
    (hp : s.seq.transport.chaseMayPreempt = false) : s.examineChase = s := by
  unfold State.examineChase State.chaseGrantable
  rw [if_neg (by simp [h, hp])]

/-- Outside CHASE a request valid in the state and at the lockout level or above passes the state and lockout tests (R64,
R83). -/
theorem admission_passes {s : State} {h : Held} (hv : h.req.validIn s.seq.transport = true)
    (hc : s.seq.transport.isChase = false) (hl : paramOf s.ports.params Param.lockoutLevel ≤ s.portLevel h.port) :
    s.admission h = none := by
  have h1 : h.chaseRefuses s.seq.transport = false := by
    unfold Held.chaseRefuses; split <;> simp_all [Transport.isChase]
  have h2 : s.lockedOut h = false := by
    simp only [State.lockedOut, State.param, Bool.and_eq_false_iff]
    exact .inl (decide_eq_false (not_lt.mpr hl))
  simp [State.admission, hv, h1, h2]

/-- An entry to STOPPED with no chase waiting and nothing pending (R70, R92): the state, no active motion, and the protocol
after a release. -/
theorem enterStopped_quiet {s : State} (h1 : s.arb.chase ≠ .waiting) (h2 : s.arb.slot = none) :
    s.enterStopped = ((s.setTransport .stopped none).setActive none).setChase s.arb.afterRelease := by
  have e : ((s.setTransport .stopped none).setActive none).arb.afterRelease = s.arb.afterRelease := rfl
  unfold State.enterStopped
  simp only [e]
  rw [examineChase_of_not_waiting]
  · simp [State.judgeSlot, h2]
  · simp only [setChase_chase, Arbiter.afterRelease]
    split <;> simp_all

/-- The states that watch the leader sensor are none of the others that a rule singles out. -/
theorem watchesLeader_cases {t : Transport} (h : t.watchesLeader = true) :
    t.isChase = false ∧ t.isMeasuring = false ∧ t.isForced = false ∧ t ≠ .halting
      ∧ ((∃ p, t = .play p) ∨ t = .wind ∨ t = .shuttle) := by
  cases t <;> simp_all [Transport.watchesLeader, Transport.isChase, Transport.isMeasuring, Transport.isForced]

end Sys2Proof.Machine
end

