-- ==== Sys2Proof/Laws/Marks.lean ====
section
/-! SUPPORT. The mark table and the announcement of a map event: reading a mark back after an insertion, a change and a
retirement, and what a map event does to the marks and the flags. -/

namespace Sys2Proof.Machine

theorem markAt_number {ms : List Mark} {n : Nat} {m : Mark} (h : markAt ms n = some m) : m.number = n := by
  simpa using List.find?_some h

theorem markAt_mem {ms : List Mark} {n : Nat} {m : Mark} (h : markAt ms n = some m) : m ∈ ms :=
  List.mem_of_find?_eq_some h

theorem markAt_cons (q : Mark) (r : List Mark) (n : Nat) :
    markAt (q :: r) n = if q.number = n then some q else markAt r n := by
  unfold markAt
  rw [List.find?_cons]
  by_cases h : q.number = n
  · simp [h]
  · rw [if_neg h, show (q.number == n) = false by simp [h]]

/-- A mark inserted under a free number is read back. -/
theorem markAt_insert_self (m : Mark) (ms : List Mark) (h : markAt ms m.number = none) :
    markAt (insertMark m ms) m.number = some m := by
  induction ms with
  | nil => simp [insertMark, markAt]
  | cons q r ih =>
    rw [markAt_cons] at h
    unfold insertMark
    split_ifs at h ⊢
    · rw [markAt_cons, if_pos rfl]
    · rw [markAt_cons, if_neg ‹_›, ih h]

/-- An insertion leaves every other number as it was. -/
theorem markAt_insert_ne (m : Mark) (ms : List Mark) {n : Nat} (h : n ≠ m.number) :
    markAt (insertMark m ms) n = markAt ms n := by
  induction ms with
  | nil => simp [insertMark, markAt]; exact fun e => h e.symm
  | cons q r ih =>
    unfold insertMark
    split_ifs
    · rw [markAt_cons, if_neg fun e => h e.symm]
    · rw [markAt_cons, markAt_cons, ih]

/-- Reading a mark after the marks of a number were changed. -/
theorem markAt_change (n : Nat) (f : Mark → Mark) (hf : ∀ m, (f m).number = m.number) (ms : List Mark) (k : Nat) :
    markAt (changeMark n f ms) k = if k = n then (markAt ms k).map f else markAt ms k := by
  induction ms with
  | nil => simp [markAt, changeMark]
  | cons q r ih =>
    have e : changeMark n f (q :: r) = (if q.number = n then f q else q) :: changeMark n f r := rfl
    rw [e, markAt_cons, markAt_cons, ih]
    by_cases hq : q.number = n
    · simp only [if_pos hq, hf]
      by_cases hk : k = n
      · subst hk; simp [hq]
      · simp [hk, show ¬ q.number = k from fun e => hk (e.symm.trans hq)]
    · simp only [if_neg hq]
      by_cases hk : k = n
      · subst hk; simp [hq]
      · simp [hk]

/-- Reading a mark after the marks of a number left the table. -/
theorem markAt_filter (n : Nat) (ms : List Mark) (k : Nat) :
    markAt (ms.filter (fun m => !(m.number == n))) k = if k = n then none else markAt ms k := by
  induction ms with
  | nil => simp [markAt]
  | cons q r ih =>
    rw [List.filter_cons, markAt_cons]
    by_cases hq : q.number = n
    · simp only [hq, beq_self_eq_true, Bool.not_true, Bool.false_eq_true, if_false, ih]
      by_cases hk : k = n
      · simp [hk]
      · simp [hk, show ¬ n = k from fun e => hk e.symm]
    · simp only [show (!(q.number == n)) = true by simp [hq], if_true, markAt_cons, ih]
      by_cases hk : k = n
      · subst hk; simp [hq]
      · simp [hk]

theorem Mark.moveTo_number (spans : List Span) (a : Int) (m : Mark) : (m.moveTo spans a).number = m.number := by
  unfold Mark.moveTo; split <;> rfl

theorem clampTrim_range (t : Int) : -4096 ≤ clampTrim t ∧ clampTrim t ≤ 4095 := by
  unfold clampTrim clampTo; split_ifs <;> omega

theorem clampTrim_eq (t : Int) : clampTrim t = max (-4096) (min 4095 t) := by
  unfold clampTrim clampTo; split_ifs <;> omega

theorem clampTrim_self_iff (t : Int) : clampTrim t = t ↔ -4096 ≤ t ∧ t ≤ 4095 := by
  unfold clampTrim clampTo; split_ifs <;> omega

/-! ## Announcements (R124, R135 to R137) -/

/-- A map event changes the map, the marks and the ports alone. -/
theorem mapEvent_eq (s : State) (e : Learned) :
    s.mapEvent e = { s with map := e.map, marks := (s.mapEvent e).marks, ports := (s.mapEvent e).ports } := by
  unfold State.mapEvent State.announce State.raiseIf
  split <;> split <;> (try split) <;> rfl

theorem mapEvent_linkRx (s : State) (e : Learned) : (s.mapEvent e).ports.linkRx = s.ports.linkRx := by
  unfold State.mapEvent State.announce State.raiseIf
  split <;> split <;> (try split) <;> rfl

/-- The marks after a map event: re-resolved when it made changes, else as they were. -/
theorem mapEvent_marks (s : State) (e : Learned) :
    (s.mapEvent e).marks
      = if e.changes = [] then s.marks else s.marks.map (Mark.announced e.map.spans e.changes) := by
  unfold State.mapEvent State.announce
  cases h : e.changes <;> simp

/-- The flags after a map event: MARK_CHANGED when a mark fell, MAP_FULL when the event says so, and no other. -/
theorem mapEvent_has (s : State) (e : Learned) (p : Port) (f : Flag) :
    ((s.mapEvent e).ports.port p).has f
      = ((s.ports.port p).has f
        || (decide (f = .markChanged) && decide (e.changes ≠ []) && s.marks.any (Mark.falls e.map.spans e.changes))
        || (decide (f = .mapFull) && e.mapFull)) := by
  unfold State.mapEvent State.announce
  rw [raiseIf_has]
  cases h : e.changes with
  | nil => simp [Bool.and_comm, State.setMap]
  | cons a l => simp [raiseIf_has, Bool.and_comm, State.setMap, State.setMarks]

end Sys2Proof.Machine
end

