-- ==== Sys2Proof/Laws/Moves.lean ====
section
/-! SUPPORT. Everything a command can do, said once: each command is a chain of the moves below. An invariant that every move
keeps is kept by every command and by every step (`exec_keeps`, `step_keeps`). -/

namespace Sys2Proof.Machine

/-- A change beside the transport, the drives, the map, the marks and the parameters: the arbiter, the locate unit, the stop
report, the flags and responses, and the model's own fields. -/
structure Aside (s t : State) : Prop where
  geom : t.geom = s.geom
  tension : t.tension = s.tension
  speed : t.speed = s.speed
  seq : t.seq = s.seq
  map : t.map = s.map
  marks : t.marks = s.marks
  params : t.ports.params = s.ports.params
  returns : ReturnsBounded s → ReturnsBounded t
  verify : t.locate.verifyTimer = true → s.locate.verifyTimer = true ∨ s.seq.transport.locatePhase = some .verify
  report : ReportWellFormed s.prot → ReportWellFormed t.prot

/-- A change of the speed unit beside its reference, mode and capstan loop. -/
structure SpeedAside (v w : Speed) : Prop where
  vRef : w.vRef = v.vRef
  target : w.target = v.target
  accel : w.accel = v.accel
  mode : w.mode = v.mode
  kind : w.kind = v.kind
  stopPoint : w.stopPoint = v.stopPoint
  loop : w.loop = v.loop

/-- The moves that make up every command. -/
inductive Move : State → State → Prop
  | aside {s t : State} (h : Aside s t) : Move s t
  | transport (s : State) (new : Transport) (dest : Option RestDest) : Move s (s.setTransport new dest)
  | cancelCreep (s : State) : Move s s.cancelCreep
  | seeLeader (s : State) (reading : Leader) : Move s (s.seeLeader reading)
  | learn (s : State) (r : Stamp) : Move s (s.mapEvent (s.map.learn (heldBy s.marks) s.headNow r))
  | flush (s : State) : Move s (s.mapEvent s.map.flush)
  | linkError (s : State) : Move s (s.setMap s.map.linkError)
  | countGap (s : State) (b : Bool) : Move s (s.setMap (s.map.countGap b))
  | closeOpen (s : State) : Move s (s.setMap (s.map.closeOpen .edge))
  | newMark (s : State) (port : Port) (n : Nat) (a trim : Int) (hn : n < Config.maxMarks)
      (hf : markAt s.marks n = none) : Move s (s.setMarks (insertMark (newMark s.map.spans port n a trim) s.marks))
  | moveMark (s : State) (n : Nat) (a : Int) : Move s (s.setMarks (changeMark n (Mark.moveTo s.map.spans a) s.marks))
  | trimMark (s : State) (n : Nat) (trim : Int) :
      Move s (s.setMarks (changeMark n (fun m => { m with trim := clampTrim trim }) s.marks))
  | lockMark (s : State) (n : Nat) (lock : Bool) (ho : studioOwned s.marks n = false) :
      Move s (s.setMarks (changeMark n (fun m => { m with lock := lock }) s.marks))
  | retireMarks (s : State) (kept : Mark → Bool) : Move s (s.setMarks (s.marks.filter kept))
  | confirmMarks (s : State) (window : Int) (r : Stamp) : Move s (s.setMarks (s.marks.map (Mark.confirmedBy window r)))
  | axis (s : State) (r : Reel) (arm : Int) : Move s (s.setAxis r (s.axisAfter r arm).1)
  | noteOut (s : State) (r : Reel) : Move s (s.noteOut r)
  | stopThreadingTimer (s : State) : Move s s.stopThreadingTimer
  | capstan (s : State) (h : s.seq.transport.capstanActive s.speed.kind = true) :
      Move s (s.setLoop (s.speed.loop.period s.ports.params s.speed.vRef s.speed.vCap).1)
  | generator (s : State) : Move s s.generatorStep
  | speedAside (s : State) (v : Speed) (h : SpeedAside s.speed v) : Move s (s.setSpeed v)
  | stopPoint (s : State) (first : Bool) (point : Int) (h : s.seq.transport.locatePhase.isSome = true) :
      Move s (s.headToward first point)
  | geometry (s : State) (g : Geometry) (hh : HeadInRange s.geom → HeadInRange g)
      (ht : g.measuringTimer = true → s.geom.measuringTimer = true) : Move s (s.setGeom g)
  | param (s : State) (n : Nat) (row : ParamRow) (v : Int) (h : paramRows[n]? = some row) :
      Move s (s.writeParam n (paramStored n row v))
  | clearQualification (s : State) : Move s s.clearQualification
  | reset (s : State) (l : ResetLevels) : Move s { State.resetWith l with draws := s.draws, pending := s.pending }

/-- A chain of moves. -/
abbrev Moves : State → State → Prop := Relation.ReflTransGen Move

theorem Moves.refl (s : State) : Moves s s := Relation.ReflTransGen.refl

theorem Moves.trans {s t u : State} (h : Moves s t) (k : Moves t u) : Moves s u := Relation.ReflTransGen.trans h k

theorem Moves.one {s t : State} (h : Move s t) : Moves s t := Relation.ReflTransGen.single h

theorem Moves.ofAside {s t : State} (h : Aside s t) : Moves s t := .one (.aside h)

/-- An invariant that every move keeps is kept along every chain. -/
theorem Moves.keeps {P : State → Prop} (hP : ∀ s t, Move s t → P s → P t) {s t : State} (h : Moves s t) : P s → P t := by
  induction h with
  | refl => exact id
  | tail _ hm ih => exact fun hs => hP _ _ hm (ih hs)

/-! ## Asides -/

/-- An aside whose return list, verify timer and stop report stand. -/
theorem Aside.of {s t : State} (geom : t.geom = s.geom) (tension : t.tension = s.tension) (speed : t.speed = s.speed)
    (seq : t.seq = s.seq) (map : t.map = s.map) (marks : t.marks = s.marks)
    (params : t.ports.params = s.ports.params) (returns : t.arb.returns = s.arb.returns)
    (verify : t.locate.verifyTimer = true → s.locate.verifyTimer = true)
    (report : t.prot.report = s.prot.report) (unread : t.prot.unread = s.prot.unread) : Aside s t where
  geom := geom
  tension := tension
  speed := speed
  seq := seq
  map := map
  marks := marks
  params := params
  returns := by unfold ReturnsBounded; rw [returns]; exact id
  verify := fun h => .inl (verify h)
  report := by unfold ReportWellFormed; rw [report, unread]; exact id

/-- A state whose fields outside the arbiter's record, the flags and the model's own stand. -/
theorem Moves.plain {s t : State} (geom : t.geom = s.geom) (tension : t.tension = s.tension) (speed : t.speed = s.speed)
    (seq : t.seq = s.seq) (map : t.map = s.map) (marks : t.marks = s.marks)
    (params : t.ports.params = s.ports.params) (returns : t.arb.returns = s.arb.returns)
    (locate : t.locate = s.locate) (prot : t.prot = s.prot) : Moves s t :=
  .ofAside (.of geom tension speed seq map marks params returns (by rw [locate]; exact id) (by rw [prot]) (by rw [prot]))

theorem onPort_moves (s : State) (p : Port) (f : PortState → PortState) : Moves s (s.onPort p f) :=
  .plain rfl rfl rfl rfl rfl rfl (by simp) rfl rfl rfl

theorem raiseOn_moves (s : State) (p : Port) (f : Flag) : Moves s (s.raiseOn p f) := onPort_moves s p _

theorem raise_moves (s : State) (f : Flag) : Moves s (s.raise f) := (raiseOn_moves s .panel f).trans (raiseOn_moves _ .studio f)

theorem raiseIf_moves (s : State) (b : Bool) (f : Flag) : Moves s (s.raiseIf b f) := by
  unfold State.raiseIf; split
  · exact raise_moves s f
  · exact .refl s

theorem setDue_moves (s : State) (ds : List Due) : Moves s (s.setDue ds) := .plain rfl rfl rfl rfl rfl rfl rfl rfl rfl rfl

theorem raiseDue_moves (s : State) (b : Bool) (d : Due) : Moves s (s.raiseDue b d) := by
  unfold State.raiseDue; split
  · exact setDue_moves s _
  · exact .refl s

theorem noteStart_moves (s : State) (k : MotionKind) : Moves s (s.noteStart k) := raiseDue_moves s _ _

theorem readSwitch_moves (s : State) (w : Switch) : Moves s (s.readSwitch w) :=
  .plain rfl rfl rfl rfl rfl rfl rfl rfl rfl rfl

theorem drawFree_moves (s : State) : Moves s s.drawFree := .plain rfl rfl rfl rfl rfl rfl rfl rfl rfl rfl

theorem setActive_moves (s : State) (m : Option Motion) : Moves s (s.setActive m) :=
  .plain rfl rfl rfl rfl rfl rfl rfl rfl rfl rfl

theorem setRecord_moves (s : State) (m : Motion) : Moves s (s.setRecord m) := setActive_moves s _

theorem recordStop_moves (s : State) : Moves s s.recordStop := setActive_moves s _

theorem setSlot_moves (s : State) (h : Option Held) : Moves s (s.setSlot h) :=
  .plain rfl rfl rfl rfl rfl rfl rfl rfl rfl rfl

theorem setChase_moves (s : State) (c : ChaseState) : Moves s (s.setChase c) :=
  .plain rfl rfl rfl rfl rfl rfl rfl rfl rfl rfl

theorem setChaseLine_moves (s : State) (b : Bool) : Moves s (s.setChaseLine b) :=
  .plain rfl rfl rfl rfl rfl rfl rfl rfl rfl rfl

/-- The return list replaced by one that keeps its bound. -/
theorem setReturns_moves (s : State) (rs : List ReturnEntry)
    (h : s.arb.returns.length ≤ Config.maxReturns → rs.length ≤ Config.maxReturns) : Moves s (s.setReturns rs) :=
  .ofAside
    { geom := rfl, tension := rfl, speed := rfl, seq := rfl, map := rfl, marks := rfl, params := rfl, returns := h
      verify := fun k => .inl k, report := id }

theorem dropPending_moves (s : State) : Moves s s.dropPending := by
  unfold State.dropPending; split
  · exact .refl s
  · exact (setSlot_moves s _).trans (raiseOn_moves _ _ _)

theorem setTransport_moves (s : State) (t : Transport) (d : Option RestDest) : Moves s (s.setTransport t d) :=
  .one (.transport s t d)

/-- Only the locate unit changes, and its verify timer is not started. -/
theorem locate_moves (s t : State) (l : Locate) (h : l.verifyTimer = true → s.locate.verifyTimer = true)
    (ht : t = { s with locate := l }) : Moves s t := by
  subst ht
  exact .ofAside (.of rfl rfl rfl rfl rfl rfl rfl rfl h rfl rfl)

theorem endLocate_moves (s : State) (o : LocateOutcome) : Moves s (s.endLocate o) := by
  unfold State.endLocate; split
  · exact .refl s
  · exact locate_moves s _ _ (by simp) rfl

theorem setLocate_moves (s : State) (r : LocateRecord) : Moves s (s.setLocate r) :=
  locate_moves s _ { s.locate with active := some r } id rfl

theorem pulseLocated_moves (s : State) (b : Bool) : Moves s (s.pulseLocated b) :=
  locate_moves s _ { s.locate with located := s.locate.located || b } id rfl

theorem endPulse_moves (s : State) : Moves s s.endPulse := locate_moves s _ { s.locate with located := false } id rfl

/-- Only the protection unit changes, and its stop report stands. -/
theorem prot_moves (s t : State) (p : Protection) (hr : p.report = s.prot.report) (hu : p.unread = s.prot.unread)
    (ht : t = { s with prot := p }) : Moves s t := by
  subst ht
  exact .ofAside (.of rfl rfl rfl rfl rfl rfl rfl rfl id hr hu)

theorem setTapeOut_moves (s : State) (n : Nat) : Moves s (s.setTapeOut n) :=
  prot_moves s _ { s.prot with tapeOut := n } rfl rfl rfl

theorem setExtStop_moves (s : State) (b : Bool) : Moves s (s.setExtStop b) :=
  prot_moves s _ { s.prot with extStop := b } rfl rfl rfl

theorem breakChase_moves (s : State) : Moves s s.breakChase := (setChase_moves s _).trans (raise_moves _ _)

theorem speedAside_moves (s : State) (v : Speed) (h : SpeedAside s.speed v) : Moves s (s.setSpeed v) :=
  .one (.speedAside s v h)

theorem setRatio_moves (s : State) (v : Int) : Moves s (s.setRatio v) :=
  speedAside_moves s { s.speed with chaseRatio := v } (by constructor <;> rfl)

theorem setRequested_moves (s : State) (v : Int) : Moves s (s.setRequested v) :=
  speedAside_moves s { s.speed with requested := v } (by constructor <;> rfl)

theorem pushReturn_moves (s : State) (r : MotionReq) : Moves s (s.pushReturn r) := by
  unfold State.pushReturn; split
  · refine (setReturns_moves s _ ?_).trans (raiseIf_moves _ _ _)
    intro _
    simp only [List.length_cons, List.length_take, Config.maxReturns]
    omega
  · exact .refl s

/-! ## Sequencer, locate unit and arbiter -/

theorem enterUnthreaded_moves (s : State) : Moves s s.enterUnthreaded := by
  unfold State.enterUnthreaded
  exact (setTransport_moves s _ _).trans ((setActive_moves _ _).trans ((setReturns_moves _ [] (by simp)).trans
    (.one (.flush _))))

theorem enterUnthreading_moves (s : State) : Moves s s.enterUnthreading :=
  (setTransport_moves s _ _).trans (dropPending_moves _)

theorem locateTransport_phase (b : Bool) (p : LocatePhase) : (locateTransport b p).locatePhase = some p := by
  cases b <;> rfl

theorem headToward_moves (s : State) (b : Bool) (l : Int) (h : s.seq.transport.locatePhase.isSome = true) :
    Moves s (s.headToward b l) :=
  .one (.stopPoint s b l h)

theorem choosePhase_moves (s : State) (b : Bool) (back : LocatePhase) (r : LocateRecord) :
    Moves s (s.choosePhase b back r) := by
  unfold State.choosePhase
  split <;> exact (setTransport_moves s _ _).trans ((setLocate_moves _ _).trans (headToward_moves _ _ _
    (by simp [locateTransport_phase])))

theorem startLocate_moves (s : State) (b : Bool) (t : LocateTarget) : Moves s (s.startLocate b t) :=
  choosePhase_moves s b _ _

theorem enterChase_moves (s : State) (p : ChasePhase) (l : Int) : Moves s (s.enterChase p l) := by
  unfold State.enterChase
  exact (setRecord_moves s _).trans ((setChase_moves _ _).trans ((setTransport_moves _ _ _).trans
    ((setRatio_moves _ _).trans (noteStart_moves _ _))))

theorem grantChase_moves (s : State) : Moves s s.grantChase := by
  unfold State.grantChase
  refine ((raiseIf_moves s s.otherSource .preempted).trans (endLocate_moves _ .preempted)).trans ?_
  dsimp only
  split
  · exact enterChase_moves _ _ _
  · exact enterChase_moves _ _ _
  · exact (setRecord_moves _ _).trans ((setChase_moves _ _).trans (setTransport_moves _ _ _))

theorem examineChase_moves (s : State) : Moves s s.examineChase := by
  unfold State.examineChase; split
  · exact grantChase_moves s
  · exact .refl s

theorem startUnthread_moves (s : State) : Moves s s.startUnthread := by
  unfold State.startUnthread
  split
  all_goals first
    | exact enterUnthreading_moves s
    | exact setTransport_moves s _ _
    | (split
       · exact enterUnthreading_moves s
       · exact setTransport_moves s _ _)

theorem startPlay_moves (s : State) (how : StartKind) : Moves s (s.startPlay how) := by
  unfold State.startPlay; split
  · exact .refl s
  · exact setTransport_moves s _ _

theorem thread_head (g : Geometry) (a b : Nat) :
    (g.thread a b).head = g.head ∧ (g.thread a b).measuringTimer = g.measuringTimer := by
  simp only [Geometry.thread]; split <;> exact ⟨rfl, rfl⟩

/-- A geometry change that leaves the head length and starts no timer. -/
theorem geometry_moves (s : State) (g : Geometry) (hh : g.head = s.geom.head)
    (ht : g.measuringTimer = true → s.geom.measuringTimer = true) : Moves s (s.setGeom g) :=
  .one (.geometry s g (by unfold HeadInRange; rw [hh]; exact id) ht)

theorem startThread_moves (s : State) (a b : Int) : Moves s (s.startThread a b) := by
  unfold State.startThread
  have h := thread_head s.geom a.toNat b.toNat
  exact (geometry_moves s _ h.1 (by rw [h.2]; exact id)).trans
    ((speedAside_moves (s.setGeom (s.geom.thread a.toNat b.toNat)) { s.speed with overspeed := ⟨0, 0⟩ }
      (by constructor <;> rfl)).trans (setTransport_moves _ _ _))

theorem startClearFault_moves (s : State) : Moves s s.startClearFault := by
  unfold State.startClearFault
  refine (Moves.one (.clearQualification s)).trans ?_
  dsimp only
  split
  · exact setTransport_moves _ _ _
  · exact enterUnthreaded_moves _

theorem handOver_moves (s : State) (how : StartKind) (h : Held) : Moves s (s.handOver how h) := by
  unfold State.handOver
  split
  · exact setTransport_moves s _ _
  · exact startPlay_moves s how
  · exact (setTransport_moves s _ _).trans (setRequested_moves _ _)
  · exact (setTransport_moves s _ _).trans (setRequested_moves _ _)
  · exact startLocate_moves s _ _
  · exact startLocate_moves s _ _
  · exact startLocate_moves s _ _
  · exact startLocate_moves s _ _
  · exact startThread_moves s _ _
  · exact startUnthread_moves s
  · exact startClearFault_moves s
  · exact .refl s

theorem beginStart_moves (s : State) (how : StartKind) : Moves s (s.beginStart how) := by
  unfold State.beginStart; split
  · exact .refl s
  · exact .refl s
  · exact raise_moves s _
  · exact (breakChase_moves s).trans (dropPending_moves _)

theorem start_moves (s : State) (how : StartKind) (h : Held) : Moves s (s.start how h) := by
  unfold State.start
  exact (beginStart_moves s how).trans ((endLocate_moves _ _).trans ((pushReturn_moves _ _).trans
    ((setRecord_moves _ _).trans ((handOver_moves _ how h).trans ((noteStart_moves _ _).trans (examineChase_moves _))))))

theorem tryStart_moves (s : State) (how : StartKind) (h : Held) : Moves s (s.tryStart how h).1 := by
  unfold State.tryStart; split
  · exact .refl s
  · exact start_moves s how h

theorem hold_moves (s : State) (h : Held) : Moves s (s.hold h).1 := by
  unfold State.hold
  exact (dropPending_moves s).trans (setSlot_moves _ _)

theorem judgeActive_moves (s : State) (h : Held) : Moves s (s.judgeActive h).1 := by
  unfold State.judgeActive
  split
  · exact tryStart_moves s _ h
  · split
    · exact tryStart_moves s _ h
    · split
      · exact tryStart_moves s _ h
      · exact .refl s

theorem judgeStarting_moves (s : State) (h : Held) : Moves s (s.judgeStarting h).1 := by
  unfold State.judgeStarting
  split
  · exact tryStart_moves s _ h
  · exact .refl s

theorem panelInChase_moves (s : State) (h : Held) : Moves s (s.panelInChase h).1 := by
  unfold State.panelInChase; split
  · exact tryStart_moves s _ h
  · exact hold_moves s h

theorem chaseSpeed_moves (s : State) (v : Int) : Moves s (s.chaseSpeed v).1 := by
  unfold State.chaseSpeed
  exact (setRatio_moves s _).trans (raiseIf_moves _ _ _)

theorem chasePhase_moves (s : State) (p : ChasePhase) : Moves s (s.chasePhase p) :=
  (endLocate_moves s _).trans (setTransport_moves _ _ _)

theorem chaseLocate_moves (s : State) (h : Held) : Moves s (s.chaseLocate h).1 := by
  unfold State.chaseLocate; split
  · exact .refl s
  · exact (endLocate_moves s _).trans ((pushReturn_moves _ _).trans (startLocate_moves _ _ _))

theorem chasePlay_moves (s : State) (p : ChasePhase) : Moves s (s.chasePlay p).1 := by
  unfold State.chasePlay
  split <;> (try split) <;> first | exact chasePhase_moves s _ | exact .refl s

theorem chaseStop_moves (s : State) (p : ChasePhase) : Moves s (s.chaseStop p).1 := by
  unfold State.chaseStop
  split <;> first | exact chasePhase_moves s _ | exact .refl s

theorem studioInChase_moves (s : State) (p : ChasePhase) (h : Held) : Moves s (s.studioInChase p h).1 := by
  unfold State.studioInChase
  split <;> (try split) <;> first
    | exact chaseSpeed_moves s _
    | exact chasePlay_moves s p
    | exact chaseStop_moves s p
    | exact chaseLocate_moves s h
    | exact .refl s

theorem stopThreading_moves (s : State) : Moves s s.stopThreading := by
  unfold State.stopThreading; split
  · exact .refl s
  · exact .one (.cancelCreep s)

theorem stopMeasuring_moves (s : State) (p : MeasurePhase) : Moves s (s.stopMeasuring p) := by
  unfold State.stopMeasuring; split
  · exact setTransport_moves s _ _
  · exact .refl s

theorem judge_moves (s : State) (h : Held) : Moves s (s.judge h).1 := by
  unfold State.judge
  split <;> (try split) <;> (try split) <;> first
    | exact .refl s
    | exact tryStart_moves s _ h
    | exact stopThreading_moves s
    | exact stopMeasuring_moves s _
    | exact dropPending_moves s
    | exact hold_moves s h
    | exact judgeActive_moves s h
    | exact judgeStarting_moves s h
    | exact studioInChase_moves s _ h
    | exact panelInChase_moves s h

theorem popReturn_moves (s : State) (h : Held) (k : Held) (t : State) (hp : s.popReturn h = some (k, t)) : Moves s t := by
  unfold State.popReturn at hp
  split at hp
  · split at hp
    · cases hp
    · rename_i e rest hr
      cases hp
      exact setReturns_moves s _ (by rw [hr, List.length_cons]; omega)
  · cases hp; exact .refl _

theorem motionFromStateTest_moves (s : State) (h : Held) : Moves s (s.motionFromStateTest h).1 := by
  unfold State.motionFromStateTest
  split
  · exact .refl s
  · split
    · exact .refl s
    · rename_i h' s' hp
      exact (popReturn_moves s h h' s' hp).trans (judge_moves s' h')

theorem motion_moves (s : State) (p : Port) (req : MotionReq) : Moves s (s.motion p req).1 := by
  unfold State.motion; split
  · exact .refl s
  · exact motionFromStateTest_moves s _

theorem judgeHeld_moves (s : State) (h : Held) : Moves s (s.judgeHeld h).1 := by
  unfold State.judgeHeld; split
  · exact .refl s
  · exact judge_moves s h

theorem judgeSlot_moves (s : State) : Moves s s.judgeSlot := by
  unfold State.judgeSlot; split
  · exact .refl s
  · refine (setSlot_moves s none).trans ?_
    dsimp only
    split
    · exact judgeHeld_moves _ _
    · exact (judgeHeld_moves _ _).trans (raiseOn_moves _ _ _)

theorem enterStopped_moves (s : State) : Moves s s.enterStopped := by
  unfold State.enterStopped
  exact (setTransport_moves s _ _).trans ((setActive_moves _ _).trans ((setChase_moves _ _).trans
    ((examineChase_moves _).trans (judgeSlot_moves _))))

/-! ## Protection -/

theorem addCause_nodup (c : Cause) (cs : List Cause) (h : cs.Nodup) : (addCause c cs).Nodup := by
  unfold addCause
  split
  · exact h
  · rename_i hc
    simp only [List.contains_iff_mem] at hc
    rw [List.nodup_append]
    exact ⟨h, List.nodup_singleton c, fun a ha b hb => by simp at hb; subst hb; exact fun he => hc (he ▸ ha)⟩

theorem capture_moves (s : State) (c : Cause) (a : CauseAxis) : Moves s (s.capture c a) := by
  refine .ofAside
    { geom := by simp, tension := by simp, speed := by simp, seq := by simp, map := by simp, marks := by simp,
      params := by simp, returns := by simp [ReturnsBounded], verify := by simp; exact fun h => .inl h, report := ?_ }
  intro hr
  unfold State.capture
  split
  · rename_i r hrep hun
    refine ⟨fun _ => rfl, fun q hq => ?_⟩
    cases hq
    exact addCause_nodup c _ (hr.2 r hrep)
  · refine ⟨fun _ => rfl, fun q hq => ?_⟩
    cases hq
    exact List.nodup_nil

theorem endByProtection_moves (s : State) : Moves s s.endByProtection := by
  unfold State.endByProtection
  dsimp only
  split
  · exact (breakChase_moves s).trans ((dropPending_moves _).trans ((endLocate_moves _ _).trans (setActive_moves _ _)))
  · exact (dropPending_moves _).trans ((endLocate_moves _ _).trans (setActive_moves _ _))

theorem enterProtectStop_moves (s : State) : Moves s s.enterProtectStop :=
  (endByProtection_moves s).trans (setTransport_moves _ _ _)

theorem enterFaulted_moves (s : State) : Moves s s.enterFaulted :=
  (endByProtection_moves s).trans ((setTransport_moves _ _ _).trans (raise_moves _ _))

theorem stopDemand_moves (s : State) : Moves s s.stopDemand := by
  unfold State.stopDemand
  split <;> first
    | exact (enterUnthreading_moves s).trans (raise_moves _ _)
    | exact enterProtectStop_moves s
    | exact .refl s

theorem faultDemand_moves (s : State) : Moves s s.faultDemand := by
  unfold State.faultDemand; split
  · exact .refl s
  · exact enterFaulted_moves s

theorem takeCause_moves (s : State) (c : Cause) (a : CauseAxis) : Moves s (s.takeCause c a) := by
  unfold State.takeCause; split
  · exact .refl s
  · refine (capture_moves s c a).trans ?_
    dsimp only
    split
    · exact faultDemand_moves _
    · exact stopDemand_moves _

theorem takeCauseIf_moves (s : State) (b : Bool) (c : Cause) (a : CauseAxis) : Moves s (s.takeCauseIf b c a) := by
  unfold State.takeCauseIf; split
  · exact takeCause_moves s c a
  · exact .refl s

theorem takeDue_moves (s : State) (d : Due) : Moves s (s.takeDue d) := by
  unfold State.takeDue; split
  · exact (setDue_moves s _).trans (takeCause_moves _ _ _)
  · exact .refl s

theorem takeCatches_moves (s : State) : Moves s s.takeCatches := by
  unfold State.takeCatches
  generalize s.due.filter _ = ds
  induction ds generalizing s with
  | nil => exact .refl s
  | cons d ds ih => exact (takeDue_moves s d).trans (ih _)

/-! ## The run of a locate -/

theorem completeLocate_moves (s : State) (v : Bool) : Moves s (s.completeLocate v) := by
  unfold State.completeLocate
  dsimp only
  split
  · exact (endLocate_moves s _).trans ((pulseLocated_moves _ v).trans ((raise_moves _ _).trans (setTransport_moves _ _ _)))
  · exact (endLocate_moves s _).trans ((pulseLocated_moves _ v).trans ((raise_moves _ _).trans (enterStopped_moves _)))

theorem failLocate_moves (s : State) (o : LocateOutcome) : Moves s (s.failLocate o) := by
  unfold State.failLocate
  dsimp only
  split
  · exact (endLocate_moves s _).trans ((raise_moves _ _).trans (setTransport_moves _ _ _))
  · exact (endLocate_moves s _).trans ((raise_moves _ _).trans ((setTransport_moves _ _ _).trans (recordStop_moves _)))

theorem missLocate_moves (s : State) (r : LocateRecord) : Moves s (s.missLocate r) := by
  unfold State.missLocate; split
  · exact failLocate_moves s _
  · exact choosePhase_moves s _ _ _

theorem headFor_moves (s : State) (b : Bool) (r : LocateRecord) (h : s.seq.transport.locatePhase.isSome = true) :
    Moves s (s.headFor b r) := by
  unfold State.headFor
  refine (setLocate_moves s r).trans ?_
  dsimp only
  split
  · exact missLocate_moves _ _
  · exact headToward_moves _ _ _ h

theorem locateIn_phase (s : State) (p : LocatePhase) : (s.locateIn p).locatePhase = some p := locateTransport_phase _ _

theorem enterApproach_moves (s : State) (r : LocateRecord) : Moves s (s.enterApproach r) := by
  unfold State.enterApproach
  exact (setTransport_moves s _ _).trans (headFor_moves _ _ _ (by simp [locateIn_phase]))

theorem startVerifyTimer_moves (s : State) (h : s.seq.transport.locatePhase = some .verify) :
    Moves s s.startVerifyTimer :=
  .ofAside
    { geom := rfl, tension := rfl, speed := rfl, seq := rfl, map := rfl, marks := rfl, params := rfl, returns := id
      verify := fun _ => .inr h, report := id }

theorem enterVerify_moves (s : State) (r : LocateRecord) : Moves s (s.enterVerify r) := by
  unfold State.enterVerify
  exact (setTransport_moves s _ _).trans ((setLocate_moves _ _).trans (startVerifyTimer_moves _
    (by simp [locateIn_phase])))

theorem pointReached_moves (s : State) : Moves s s.pointReached := by
  unfold State.pointReached
  split <;> (try split) <;> first
    | exact enterApproach_moves s _
    | exact completeLocate_moves s _
    | exact enterVerify_moves s _
    | exact .refl s

theorem handReport_moves (s : State) (p : Stamp) : Moves s (s.handReport p) := by
  unfold State.handReport
  dsimp only
  split
  · rename_i hp
    exact headFor_moves s _ _ (by simp [hp])
  · exact setLocate_moves s _
  · exact .refl s

theorem passWithoutReports_moves (s : State) (r : LocateRecord) : Moves s (s.passWithoutReports r) := by
  unfold State.passWithoutReports; split
  · exact failLocate_moves s _
  · exact completeLocate_moves s _

theorem evaluateVerify_moves (s : State) (r : LocateRecord) : Moves s (s.evaluateVerify r) := by
  unfold State.evaluateVerify
  split
  · exact passWithoutReports_moves s r
  · dsimp only
    split
    · exact (setLocate_moves s _).trans (completeLocate_moves _ _)
    · exact (setLocate_moves s _).trans (missLocate_moves _ _)

theorem verifyExpiry_moves (s : State) : Moves s s.verifyExpiry := by
  unfold State.verifyExpiry
  split
  · exact .refl s
  · split
    · exact evaluateVerify_moves s _
    · exact .refl s

theorem retireTarget_moves (s : State) (taken : Nat → Bool) : Moves s (s.retireTarget taken) := by
  unfold State.retireTarget; split
  · exact failLocate_moves s _
  · exact .refl s

/-! ## Requests -/

/-- The state a slot leaves under ordered tests: its own, or what its act leaves once every test has passed. -/
theorem underTests_moves (s : State) (tests : List (Bool × Status)) (act : State → Carried)
    (h : firstFailure tests = none → Moves s (act s).state) : Moves s (underTests tests act s).state := by
  unfold underTests; split
  · exact .refl s
  · rename_i hf; exact h hf

/-- No test of a list that passes fails. -/
theorem firstFailure_none {tests : List (Bool × Status)} (h : firstFailure tests = none) :
    ∀ x ∈ tests, x.1 = false := by
  induction tests with
  | nil => simp
  | cons x rest ih =>
    obtain ⟨b, st⟩ := x
    cases b <;> simp_all [firstFailure]

/-- The number a new mark takes is below 128 and held by no mark once the tests have passed. -/
theorem newNumber_free (marks : List Mark) (n : Nat) (hb : badNewNumber n = false)
    (ht : ∀ x ∈ newMarkTests marks n, x.1 = false) :
    newNumber marks n < Config.maxMarks ∧ markAt marks (newNumber marks n) = none := by
  simp only [newMarkTests, List.mem_cons, List.not_mem_nil, or_false, forall_eq_or_imp, forall_eq] at ht
  unfold newNumber
  split
  · rename_i hn
    have h2 := ht.2
    simp only [hn, decide_true, Bool.true_and, Option.isNone_eq_false_iff, Option.isSome_iff_exists] at h2
    obtain ⟨k, hk⟩ := h2
    rw [hk]
    simp only [Option.getD_some]
    unfold freeMark at hk
    have hm := List.mem_of_find?_eq_some hk
    have hp := List.find?_some hk
    refine ⟨List.mem_range.mp hm, ?_⟩
    simp only [Bool.not_eq_true', List.any_eq_false] at hp
    unfold markAt
    rw [List.find?_eq_none]
    exact hp
  · rename_i hn
    have h1 : n ≤ 127 := by
      simp only [badNewNumber, Bool.and_eq_false_iff, decide_eq_false_iff_not] at hb
      omega
    have h2 := ht.1
    simp only [h1, decide_true, Bool.true_and] at h2
    refine ⟨by unfold Config.maxMarks; omega, ?_⟩
    cases hk : markAt marks n with
    | none => rfl
    | some m => simp [hk] at h2

theorem makeMark_moves (s : State) (port : Port) (n : Nat) (a trim : Int)
    (h : newNumber s.marks n < Config.maxMarks ∧ markAt s.marks (newNumber s.marks n) = none) :
    Moves s (s.makeMark port n a trim).state :=
  .one (.newMark s port _ a trim h.1 h.2)

theorem placeMark_moves (s : State) (port : Port) (n : Nat) (a trim : Int) : Moves s (s.placeMark port n a trim).state := by
  refine underTests_moves s _ _ fun hf => makeMark_moves s port n a trim ?_
  have ht := firstFailure_none hf
  exact newNumber_free s.marks n (ht (badNewNumber n, .badOperand) (by simp)) fun x hx => ht x (by simp [hx])

theorem captureMark_moves (s : State) (port : Port) (n : Nat) : Moves s (s.captureMark port n).state := by
  refine underTests_moves s _ _ fun hf => ?_
  have ht := firstFailure_none hf
  have hn := newNumber_free s.marks n (ht (badNewNumber n, .badOperand) (by simp)) fun x hx => ht x (by simp [hx])
  split
  · exact .refl s
  · exact makeMark_moves s port n _ 0 hn

theorem setLock_moves (s : State) (lock : Bool) (n : Nat) : Moves s (s.setLock lock n).state := by
  refine underTests_moves s _ _ fun hf => ?_
  have ht := firstFailure_none hf
  exact .one (.lockMark s n lock (ht (studioOwned s.marks n, .notPermitted) (by simp)))

theorem retire_moves (s : State) (taken : Mark → Bool) : Moves s (s.retire taken) := by
  unfold State.retire
  exact (Moves.one (.retireMarks s _)).trans (retireTarget_moves _ _)

theorem forgetMap_moves (s : State) : Moves s s.forgetMap.state :=
  underTests_moves s _ _ fun _ => .one (.flush s)

theorem setProfile_moves (s : State) (n : Nat) (ch cf nmax : Int) (js : List Int) :
    Moves s (s.setProfile n ch cf nmax js).state := by
  unfold State.setProfile
  exact underTests_moves s _ _ fun _ => geometry_moves s _ (by rfl) (by exact id)

theorem storeParam_moves (s : State) (n : Nat) (row : ParamRow) (v : Int) (h : paramRows[n]? = some row) :
    Moves s (s.storeParam n (paramStored n row v)) := by
  unfold State.storeParam
  refine (Moves.one (.param s n row v h)).trans ?_
  dsimp only
  split
  · exact examineChase_moves _
  · exact .refl _

theorem setParameter_moves (s : State) (n : Nat) (v : Int) : Moves s (s.setParameter n v).state := by
  unfold State.setParameter
  split
  · exact .refl s
  · rename_i row h; exact storeParam_moves s n row v h

theorem readStopReport_moves (s : State) : Moves s s.readStopReport.state := by
  unfold State.readStopReport
  split
  · exact .refl s
  · refine .ofAside
      { geom := rfl, tension := rfl, speed := rfl, seq := rfl, map := rfl, marks := rfl, params := rfl, returns := id
        verify := fun h => .inl h, report := fun hr => ⟨by simp [answer, State.clearUnread], hr.2⟩ }

theorem clearFlags_moves (s : State) (port : Port) (c a m : Nat) : Moves s (s.clearFlags port c a m).state :=
  underTests_moves s _ _ fun _ => onPort_moves s port _

theorem perform_moves (s : State) (port : Port) (req : Request) : Moves s (s.perform port req).state := by
  cases req with
  | motion m => exact motion_moves s port m
  | placeMark n a t => exact placeMark_moves s port n a t
  | captureMark n => exact captureMark_moves s port n
  | moveMark n a => exact underTests_moves s _ _ fun _ => .one (.moveMark s n a)
  | trimMark n t => exact underTests_moves s _ _ fun _ => .one (.trimMark s n t)
  | lockMark n => exact setLock_moves s true n
  | unlockMark n => exact setLock_moves s false n
  | retireMark n => exact underTests_moves s _ _ fun _ => retire_moves s _
  | retireMarks scope => exact underTests_moves s _ _ fun _ => retire_moves s _
  | readMark n => exact underTests_moves s _ _ fun _ => .refl s
  | listMarks n => exact underTests_moves s _ _ fun _ => .refl s
  | readSpans i => exact underTests_moves s _ _ fun _ => .refl s
  | forgetMap => exact forgetMap_moves s
  | setProfile n ch cf nmax js => exact setProfile_moves s n ch cf nmax js
  | readProfile n => exact underTests_moves s _ _ fun _ => .refl s
  | setParameter n v => exact setParameter_moves s n v
  | readParameter n =>
    show Moves s (s.readParameter n).state
    unfold State.readParameter
    split <;> exact .refl s
  | readStatus => exact .refl s
  | readGeometry => exact .refl s
  | readStopReport => exact readStopReport_moves s
  | clearFlags c a m => exact clearFlags_moves s port c a m

theorem carryOut_moves (s : State) (port : Port) (kind : Nat) (ops : List Byte) :
    Moves s (s.carryOut port kind ops).state := by
  unfold State.carryOut; split
  · exact .refl s
  · exact perform_moves s port _

theorem runSlots_moves (port : Port) (slots : List Slot) :
    ∀ (prev : Bool) (s : State), Moves s (runSlots port prev slots s).1 := by
  induction slots with
  | nil => exact fun _ s => .refl s
  | cons x rest ih =>
    intro prev s
    unfold runSlots
    split
    · exact ih false s
    · exact (carryOut_moves s port x.kind x.ops).trans (ih _ _)

theorem loseHeld_moves (s : State) (p : Port) : Moves s (s.loseHeld p) := by
  unfold State.loseHeld; split
  · exact .refl s
  · exact (onPort_moves s p _).trans (raiseOn_moves _ _ _)

theorem arrive_moves (s : State) (p : Port) (a : Arrival) : Moves s (s.arrive p a) := by
  unfold State.arrive
  refine (loseHeld_moves s p).trans ?_
  cases a with
  | refused st tag => exact onPort_moves _ p _
  | taken tag slots => exact (runSlots_moves p slots true _).trans (onPort_moves _ p _)

/-! ## Commands -/

theorem setAsserted_moves (s : State) (b : Bool) : Moves s (s.setAsserted b) :=
  .plain rfl rfl rfl rfl rfl rfl rfl rfl rfl rfl

theorem setStudioRx_moves (s : State) (r : RxState) : Moves s (s.setStudioRx r) :=
  .plain rfl rfl rfl rfl rfl rfl rfl rfl rfl rfl

theorem setLinkRx_moves (s : State) (r : LinkRx) : Moves s (s.setLinkRx r) :=
  .plain rfl rfl rfl rfl rfl rfl rfl rfl rfl rfl

theorem deassert_moves (s : State) (mosi : List Byte) : Moves s (s.deassert mosi) := by
  unfold State.deassert
  dsimp only
  split
  · exact (setAsserted_moves s false).trans (onPort_moves _ _ _)
  · exact (setAsserted_moves s false).trans ((onPort_moves _ _ _).trans (arrive_moves _ _ _))

theorem studioArrival_moves (s : State) (frame : List Byte) : Moves s (s.studioArrival frame) :=
  (setStudioRx_moves s .hunt).trans (arrive_moves _ _ _)

theorem linkError_moves (s : State) : Moves s s.linkError := (Moves.one (.linkError s)).trans (raise_moves _ _)

theorem takeReport_moves (s : State) (r : Stamp) : Moves s (s.takeReport r) := by
  unfold State.takeReport
  exact (Moves.one (.learn s r)).trans ((Moves.one (.confirmMarks _ _ r)).trans (handReport_moves _ r))

theorem addressReport_moves (s : State) (a : Int) : Moves s (s.addressReport a) := by
  unfold State.addressReport; split
  · exact .refl s
  · split
    · exact takeReport_moves s _
    · exact .refl s

theorem discardLink_moves (s : State) : Moves s s.discardLink := by
  unfold State.discardLink; split
  · exact (setLinkRx_moves s _).trans (linkError_moves _)
  · exact .refl s

theorem countWindows_head (g : Geometry) (b : Bool) (d : Sense) :
    (g.countWindows b d).head = g.head ∧ (g.countWindows b d).measuringTimer = g.measuringTimer := by
  unfold Geometry.countWindows; split <;> exact ⟨rfl, rfl⟩

theorem countRoller_moves (s : State) (d : Sense) : Moves s (s.countRoller d) := by
  have h := countWindows_head s.geom s.seq.transport.estimating d
  exact (geometry_moves s _ h.1 (by rw [h.2]; exact id)).trans
    ((speedAside_moves _ _ (by constructor <;> rfl)).trans (.one (.countGap _ s.acceptsReports)))

theorem countHead_range (g : Geometry) (d : Sense) (h : HeadInRange g) : HeadInRange (g.countHead d).1 := by
  unfold Geometry.countHead
  split
  · exact h
  · dsimp only
    split
    · exact h
    · rename_i hn
      intro k hk
      cases hk
      omega

theorem countHead_timer (g : Geometry) (d : Sense) : (g.countHead d).1.measuringTimer = g.measuringTimer := by
  unfold Geometry.countHead
  split
  · rfl
  · dsimp only
    split <;> rfl

theorem rollerCount_moves (s : State) (d : Sense) : Moves s (s.rollerCount d) := by
  unfold State.rollerCount
  exact (countRoller_moves s d).trans ((Moves.one (.geometry _ _ (countHead_range _ d)
    (by rw [countHead_timer]; exact id))).trans (takeCauseIf_moves _ _ _ _))

theorem stopMeasuringTimer_moves (s : State) : Moves s s.stopMeasuringTimer := geometry_moves s _ (by rfl) (by simp)

theorem geometryMeasured_moves (s : State) : Moves s s.geometryMeasured := by
  unfold State.geometryMeasured
  refine (stopMeasuringTimer_moves s).trans ?_
  dsimp only
  split
  · exact setTransport_moves _ _ _
  · exact .refl _

theorem estimateReel_moves (s : State) (r : Reel) (t : Turn) : Moves s (s.estimateReel r t) := by
  unfold State.estimateReel
  dsimp only
  split
  · exact (geometry_moves s _ (by rfl) (by exact id)).trans ((raiseDue_moves _ _ _).trans (geometryMeasured_moves _))
  · exact (geometry_moves s _ (by rfl) (by exact id)).trans (raiseDue_moves _ _ _)

theorem reelCount_moves (s : State) (r : Reel) (t : Turn) : Moves s (s.reelCount r t) := by
  unfold State.reelCount
  dsimp only
  split
  · exact (speedAside_moves s _ (by constructor <;> rfl)).trans (estimateReel_moves _ _ _)
  · exact speedAside_moves s _ (by constructor <;> rfl)

theorem axisPeriod_moves (s : State) (r : Reel) (arm : Int) : Moves s (s.axisPeriod r arm).1 := by
  unfold State.axisPeriod
  exact (Moves.one (.axis s r arm)).trans
    ((raiseDue_moves _ _ _).trans ((raiseDue_moves _ _ _).trans (raiseDue_moves _ _ _)))

theorem tensionEstablished_moves (s : State) : Moves s s.tensionEstablished := by
  unfold State.tensionEstablished
  split
  · exact setTransport_moves s _ _
  · split <;> exact setTransport_moves s _ _

theorem threadingTest_moves (s : State) : Moves s s.threadingTest := by
  unfold State.threadingTest
  split
  · split
    · exact tensionEstablished_moves s
    · exact .one (.noteOut s _)
  · exact .refl s

theorem axisServoPeriod_moves (s : State) (r : Reel) (arm : Int) : Moves s (s.axisServoPeriod r arm) := by
  unfold State.axisServoPeriod
  dsimp only
  split
  · exact (axisPeriod_moves s r arm).trans (enterUnthreaded_moves _)
  · exact (axisPeriod_moves s r arm).trans (threadingTest_moves _)

theorem capstanPeriod_moves (s : State) : Moves s s.capstanPeriod := by
  unfold State.capstanPeriod
  split
  · rename_i h
    exact (Moves.one (.capstan s h)).trans (raiseDue_moves _ _ _)
  · exact .refl s

theorem testOverspeed_moves (s : State) (r : Reel) : Moves s (s.testOverspeed r) := by
  unfold State.testOverspeed
  exact (speedAside_moves s _ (by constructor <;> rfl)).trans (raiseDue_moves _ _ _)

theorem sampleSwitch_moves (s : State) (w : Switch) : Moves s (s.sampleSwitch w) := by
  unfold State.sampleSwitch
  refine (readSwitch_moves s w).trans ?_
  dsimp only
  split
  · exact .refl _
  · exact (setTapeOut_moves _ _).trans (raiseDue_moves _ _ _)

theorem restReached_moves (s : State) : Moves s s.restReached := by
  unfold State.restReached
  split
  · split
    · exact setTransport_moves s _ _
    · exact enterUnthreading_moves s
    · exact .refl s
  · exact setTransport_moves s _ _
  · split
    · exact enterStopped_moves s
    · exact enterUnthreading_moves s
    · exact enterChase_moves s _ _
    · exact .refl s
  · exact (raise_moves s _).trans (enterStopped_moves _)
  · exact enterStopped_moves s
  · exact .refl s

theorem generatorTests_moves (s : State) : Moves s s.generatorTests := by
  unfold State.generatorTests
  split
  · exact (speedAside_moves s _ (by constructor <;> rfl)).trans (pointReached_moves _)
  · split
    · exact (speedAside_moves s _ (by constructor <;> rfl)).trans (restReached_moves _)
    · exact .refl s

theorem generatorPeriod_moves (s : State) (w : Switch) : Moves s (s.generatorPeriod w) := by
  unfold State.generatorPeriod
  exact (Moves.one (.generator s)).trans ((testOverspeed_moves _ _).trans ((testOverspeed_moves _ _).trans
    ((sampleSwitch_moves _ w).trans (generatorTests_moves _))))

theorem threadingLoss_moves (s : State) : Moves s s.threadingLoss := by
  unfold State.threadingLoss
  split
  · exact takeCause_moves s _ _
  · exact (drawFree_moves s).trans (takeCause_moves _ _ _)

theorem measuringLoss_moves (s : State) : Moves s s.measuringLoss := by
  unfold State.measuringLoss; split
  · exact takeCause_moves s _ _
  · exact .refl s

theorem endOfTapeHalt_moves (s : State) : Moves s s.endOfTapeHalt := by
  unfold State.endOfTapeHalt; split
  · exact (setTransport_moves s _ _).trans (recordStop_moves _)
  · exact .refl s

theorem leaderChange_moves (s : State) (l : Leader) (b : Bool) : Moves s (s.leaderChange l b) := by
  unfold State.leaderChange
  refine (Moves.one (.seeLeader s l)).trans ?_
  dsimp only
  split
  · unfold State.leaderAppears
    split
    · exact (endOfTapeHalt_moves _).trans (takeCauseIf_moves _ _ _ _)
    · exact (takeCauseIf_moves _ _ _ _).trans (endOfTapeHalt_moves _)
  · exact .refl _

theorem extStopChange_moves (s : State) (b : Bool) : Moves s (s.extStopChange b) := by
  unfold State.extStopChange
  exact (setExtStop_moves s b).trans (takeCauseIf_moves _ _ _ _)

theorem chaseRise_moves (s : State) : Moves s s.chaseRise := by
  unfold State.chaseRise
  refine (setChaseLine_moves s true).trans ?_
  dsimp only
  split
  · exact (setChase_moves _ _).trans (examineChase_moves _)
  · exact setChase_moves _ _
  all_goals exact .refl _

theorem startRelease_moves (s : State) : Moves s s.startRelease :=
  (endLocate_moves s _).trans ((setTransport_moves _ _ _).trans (setChase_moves _ _))

theorem chaseFall_moves (s : State) : Moves s s.chaseFall := by
  unfold State.chaseFall
  refine (setChaseLine_moves s false).trans ?_
  dsimp only
  split
  · exact setChase_moves _ _
  · exact setChase_moves _ _
  · exact (setTransport_moves _ _ _).trans (setChase_moves _ _)
  · exact startRelease_moves _
  · exact .refl _
  · exact .refl _

/-- A guarded effect is a chain of moves when the effect is. -/
theorem ite_moves {s t : State} (p : Prop) [Decidable p] (h : Moves s t) : Moves s (if p then t else s) := by
  split
  · exact h
  · exact .refl s

/-- EVERY command is a chain of moves. -/
theorem exec_moves (c : Instr) (s t : State) (h : exec c s = .next t) : Moves s t := by
  cases c <;> simp only [exec] at h <;> cases h
  case deviceReset l => exact .one (.reset s l)
  case extStopLevelCatch => exact takeDue_moves s _
  all_goals refine (takeCatches_moves s).trans ?_
  case panelDeassertion mosi w => exact (readSwitch_moves _ w).trans (deassert_moves _ mosi)
  case studioFrameArrival frame w => exact (readSwitch_moves _ w).trans (studioArrival_moves _ frame)
  case studioGapTimeout => exact setStudioRx_moves _ _
  case studioFramingError => exact setStudioRx_moves _ _
  case studioResponseSent => exact onPort_moves _ _ _
  case addressLinkFrame high mid low check =>
    split
    · exact (setLinkRx_moves _ _).trans (addressReport_moves _ _)
    · exact (setLinkRx_moves _ _).trans (linkError_moves _)
  case lostSync => exact ite_moves _ ((setLinkRx_moves _ _).trans (linkError_moves _))
  case linkGapTimeout => exact discardLink_moves _
  case linkFramingError => exact discardLink_moves _
  case rollerCount d => exact rollerCount_moves _ d
  case gapCountLimit => exact ite_moves _ (.one (.closeOpen _))
  case reelCount r t => exact reelCount_moves _ r t
  case rejectCountLimit r => exact takeDue_moves _ _
  case capstanCount d => exact speedAside_moves _ _ (by constructor <;> rfl)
  case axisServoPeriod r arm => exact axisServoPeriod_moves _ r _
  case saturationCountLimit r => exact takeDue_moves _ _
  case lowCountLimit r => exact takeDue_moves _ _
  case highCountLimit r => exact takeDue_moves _ _
  case capstanServoPeriod => exact capstanPeriod_moves _
  case capstanSaturationLimit => exact takeDue_moves _ _
  case profileGeneratorPeriod w => exact generatorPeriod_moves _ w
  case overspeedCountLimit r => exact takeDue_moves _ _
  case tapeOutCountLimit => exact takeDue_moves _ _
  case threadingTimerExpiry =>
    exact ite_moves _ ((Moves.one (.stopThreadingTimer _)).trans (threadingLoss_moves _))
  case measuringTimerExpiry =>
    exact ite_moves _ ((stopMeasuringTimer_moves _).trans (measuringLoss_moves _))
  case settleTimerExpiry => exact ite_moves _ (enterStopped_moves _)
  case engageTimerExpiry => exact ite_moves _ (setTransport_moves _ _ _)
  case verifyTimerExpiry => exact ite_moves _ (verifyExpiry_moves _)
  case locatedPulseEnd => exact endPulse_moves _
  case leaderSensorChange l b => exact leaderChange_moves _ l b
  case externalStopLineChange b => exact extStopChange_moves _ b
  case chaseRequestRise =>
    split
    · exact .refl _
    · exact chaseRise_moves _
  case chaseRequestFall => exact ite_moves _ (chaseFall_moves _)
  case chipSelectAssertion => exact setAsserted_moves _ _
  case requestStartByte => exact setStudioRx_moves _ _
  case syncByte => exact setLinkRx_moves _ _

/-- An invariant that every move keeps is kept by every command. -/
theorem exec_keeps {P : State → Prop} (hP : ∀ s t, Move s t → P s → P t) (c : Instr) (s t : State)
    (h : exec c s = .next t) (hs : P s) : P t :=
  (exec_moves c s t h).keeps hP hs

/-- EVERY step is a chain of moves. -/
theorem step_moves (s t : State) (h : step s = .next t) : Moves s t := by
  unfold step at h
  split at h
  · rename_i c rest _
    exact (Moves.plain (s := s) (t := { s with pending := rest }) rfl rfl rfl rfl rfl rfl rfl rfl rfl rfl).trans
      (exec_moves c _ t h)
  · split at h
    · exact exec_moves _ _ _ h
    · cases h; exact .refl s

/-- An invariant that every move keeps is kept by every step. -/
theorem step_keeps {P : State → Prop} (hP : ∀ s t, Move s t → P s → P t) (s t : State) (h : step s = .next t)
    (hs : P s) : P t :=
  (step_moves s t h).keeps hP hs

end Sys2Proof.Machine
end

