-- ==== Sys2Proof/Laws/Params.lean ====
section
/-! SUPPORT. The parameter table (R202) and the clamp: reading back a written parameter, what a stored value satisfies, and
what writing a parameter leaves as it was. -/

namespace Sys2Proof.Machine

theorem paramRows_length : paramRows.length = 38 := rfl

theorem paramOf_set (ps : List Int) (n k : Nat) (v : Int) (h : n < ps.length) :
    paramOf (ps.set n v) k = if k = n then v else paramOf ps k := by
  unfold paramOf
  rw [List.getD_eq_getElem?_getD, List.getD_eq_getElem?_getD, List.getElem?_set]
  by_cases e : n = k
  · subst e; simp [h]
  · rw [if_neg e, if_neg fun h' => e h'.symm]

theorem writeParam_params (s : State) (n : Nat) (v : Int) :
    (s.writeParam n v).ports.params = s.ports.params.set n v := by
  unfold State.writeParam; dsimp only; split_ifs <;> rfl

/-- Writing a parameter changes the table and at most one held drive word (R31, R53, R202). -/
theorem writeParam_frame (s : State) (n : Nat) (v : Int) :
    (s.writeParam n v).geom = s.geom ∧ (s.writeParam n v).seq = s.seq ∧ (s.writeParam n v).map = s.map
      ∧ (s.writeParam n v).marks = s.marks ∧ (s.writeParam n v).locate = s.locate ∧ (s.writeParam n v).arb = s.arb
      ∧ (s.writeParam n v).prot = s.prot ∧ (s.writeParam n v).tension.threadingTimer = s.tension.threadingTimer
      ∧ (s.writeParam n v).speed = { s.speed with loop := (s.writeParam n v).speed.loop } := by
  unfold State.writeParam
  dsimp only
  split_ifs <;> exact ⟨rfl, rfl, rfl, rfl, rfl, rfl, rfl, rfl, rfl⟩

theorem clampTo_bounds {lo hi : Int} (h : lo ≤ hi) (x : Int) : lo ≤ clampTo lo hi x ∧ clampTo lo hi x ≤ hi := by
  unfold clampTo; split_ifs <;> omega

theorem clampTo_eq_max_min {lo hi : Int} (h : lo ≤ hi) (x : Int) : clampTo lo hi x = max lo (min hi x) := by
  unfold clampTo; split_ifs <;> omega

theorem clampTo_of_mem {lo hi x : Int} (h1 : lo ≤ x) (h2 : x ≤ hi) : clampTo lo hi x = x := by
  unfold clampTo; split_ifs <;> omega

/-- A word clamped to plus or minus a limit lies within it (R31, R53). -/
theorem mag_clampTo {l : Int} (h : 0 ≤ l) (x : Int) : mag (clampTo (-l) l x) ≤ l := by
  unfold mag clampTo; split_ifs <;> omega

theorem mag_nonneg (x : Int) : 0 ≤ mag x := by unfold mag; split_ifs <;> omega

theorem mag_neg (x : Int) : mag (-x) = mag x := by unfold mag; split_ifs <;> omega

/-- A stored value lies in its row's range (R202). -/
theorem paramStored_range (n : Nat) (row : ParamRow) (v : Int) (h : paramRows[n]? = some row) :
    row.lo ≤ paramStored n row v ∧ paramStored n row v ≤ row.hi := by
  have hn : n < 38 := (List.getElem?_eq_some_iff.mp h).1
  unfold paramStored clampTo
  interval_cases n <;> simp [paramRows, paramRowsLow, paramRowsHigh] at h <;> subst h <;>
    simp [Param.playSpeed, Param.settleTime] <;> split_ifs <;> omega

end Sys2Proof.Machine
end

