-- ==== Sys2Proof/WellFormed.lean ====
section
/-! DEFINITION. Which commands the wires can deliver. The types of the operands already bound the arm reading (0..4,095),
the link bytes and the two-valued levels. -/

namespace Sys2Proof

/-- The one-byte length N of a studio frame bounds its bytes (R189): a longer list spells no frame. Every other operand is
bounded by its type. -/
def Instr.wellFormed : Instr → Bool
  | .studioFrameArrival frame _ => decide (frame.length ≤ 255)
  | .deviceReset _ | .panelDeassertion _ _ | .studioGapTimeout | .studioFramingError | .studioResponseSent
  | .addressLinkFrame _ _ _ _ | .lostSync | .linkGapTimeout | .linkFramingError | .rollerCount _ | .gapCountLimit
  | .reelCount _ _ | .rejectCountLimit _ | .capstanCount _ | .axisServoPeriod _ _ | .saturationCountLimit _
  | .lowCountLimit _ | .highCountLimit _ | .capstanServoPeriod | .capstanSaturationLimit | .profileGeneratorPeriod _
  | .overspeedCountLimit _ | .tapeOutCountLimit | .threadingTimerExpiry | .measuringTimerExpiry | .settleTimerExpiry
  | .engageTimerExpiry | .verifyTimerExpiry | .locatedPulseEnd | .leaderSensorChange _ _ | .externalStopLineChange _
  | .extStopLevelCatch | .chaseRequestRise | .chaseRequestFall | .chipSelectAssertion | .requestStartByte
  | .syncByte => true

end Sys2Proof
end

