-- ==== Sys2Proof/Tests/Slice0.lean ====
section
/-! SUPPORT. Tests of the model against the worked figures of the manual (each names the chapter it is taken from), and the
witnesses of the obligations: concrete states and operands that meet their hypotheses, at the ends of their ranges. -/

namespace Sys2Proof.Tests

set_option Elab.async false

open Sys2Proof Sys2Proof.Machine

/-! ## Helpers -/

/-- A measured reel. -/
def reelAt (c : Int) : Estimator := { c := some c, mode := .tracking, dn := 0, dl := 0, reject := 0 }

/-- A threaded part in a state and phase, both reels on slot 0, the head at length 0 and the switch closed. -/
def machineIn (t : Transport) (kind : Option DecelKind) : State :=
  let s := State.reset
  { s with
    geom := { s.geom with head := some 0, est := ⟨reelAt 4716, reelAt 4716⟩, bound := ⟨some 0, some 0⟩ }
    seq := { s.seq with transport := t, outputs := t.outputs kind }
    speed := { s.speed with mode := t.genMode, kind := kind }
    tapePath := .closed }

/-- The state a command leaves. -/
def after (c : Instr) (s : State) : State :=
  match exec c s with
  | .next t => t
  | .fault _ => s
  | .refused _ => s

/-- The same with a head length. -/
def withHead (h : Int) (s : State) : State := { s with geom := { s.geom with head := some h } }

/-- The same with a parameter set. -/
def withParam (n : Nat) (v : Int) (s : State) : State :=
  { s with ports := { s.ports with params := s.ports.params.set n v } }

/-- The same with an active motion. -/
def withMotion (k : MotionKind) (src : Source) (level : Int) (s : State) : State :=
  s.setActive (some { kind := k, source := src, level := level })

/-- The same with spans. -/
def withSpans (spans : List Span) (s : State) : State := { s with map := { s.map with spans := spans } }

/-- A CLOSED span at the nominal pitch. -/
def spanOf (num : Nat) (startLen lastLen startAddr : Int) : Span :=
  { num := num, startLen := startLen, lastLen := lastLen, startAddr := startAddr, pitch := 40960, anchors := 2,
    isOpen := false, startKind := .edge, lastKind := .edge }

/-- A PANEL mark as R134 resolves it. -/
def markOf (spans : List Span) (num : Nat) (a : Int) : Mark := newMark spans .panel num a 0

/-- A one-slot frame with its check. -/
def frameOf (kind : Nat) (ops : List Byte) : List Byte := frameBytes 0x21#8 [⟨kind, 0, ops⟩]

/-! ## Well-formedness, decoding and dispatch -/

/-- A studio frame of 256 bytes cannot be spelled by its one-byte length (R189). -/
theorem test_wellFormed_refuses_long_frame :
    Instr.wellFormed (.studioFrameArrival (List.replicate 256 0#8) .closed) = false := by decide +kernel

theorem test_wellFormed_takes_longest_frame :
    Instr.wellFormed (.studioFrameArrival (List.replicate 255 0#8) .closed) = true := by decide +kernel

/-- No row of the table gives bits. -/
theorem test_decode_spells_no_command : decodeTableWord 8 0 = none ∧ decodeTableWord 32 255 = none := by decide

theorem test_withFetchWord_keeps_state : State.reset.withFetchWord 8 1 = State.reset := rfl

/-- The part idles from reset with nothing to do. -/
theorem test_reset_idles : step State.reset = .next State.reset := rfl

/-! ## Chapter 1 -/

/-- Chapter 1, threading measurement: ΔL +380 over Δn +256 is rejected, +463 measures the takeup reel at 1,852. -/
theorem test_measuring_windows :
    let p := some resetProfile
    let e : Estimator := { c := some 3662, mode := .initial, dn := 256, dl := 380, reject := 0 }
    ((e.evaluate .takeup p).1 = { c := some 3662, mode := .initial, dn := 0, dl := 0, reject := 1 })
      ∧ (({ e with dl := 463, reject := 1 }).evaluate .takeup p).1 = reelAt 1852
      ∧ (({ e with dn := -256, dl := 1350 }).evaluate .supply p).1 = reelAt 5400 := by decide +kernel

/-- Chapter 1, tracking: 4,700 goes to 4,716 on a sample of 4,824 and 4,717 to 4,718 on one of 4,720; ΔL 40 is discarded. -/
theorem test_tracking_filter :
    filterStep 1795 4700 4824 = 4716 ∧ filterStep 1795 4717 4720 = 4718 ∧ filterStep 1795 1800 1600 = 1795
      ∧ (({ reelAt 4720 with dn := 256, dl := 40 }).evaluate .takeup (some resetProfile)).1 = reelAt 4720 := by
  decide +kernel

/-- Chapter 1: J is 2,490 at C 4,716, 346 at C 2,000 and 3,950 from C_7 on; v_lim truncates. -/
theorem test_inertia_and_limit :
    resetProfile.inertiaAt 4716 = 2490 ∧ resetProfile.inertiaAt 2000 = 346 ∧ resetProfile.inertiaAt 5530 = 3950
      ∧ resetProfile.inertiaAt 1795 = 300 ∧ truncDiv (25000 * 1853) 1024 = 45239 := by decide +kernel

/-- Chapter 1, forward wind: the limit is 46,300 at the start and the end speed in the end zone. -/
theorem test_geometry_limit :
    let g := (machineIn .wind none).geom
    ({ g with est := ⟨reelAt 5400, reelAt 1852⟩ }).boundSpeed 400 5000 1 0 50000 = 46300
      ∧ ({ g with est := ⟨reelAt 2180, reelAt 5390⟩ }).boundSpeed 400 5000 1 0 50000 = 5000
      ∧ ({ g with est := ⟨reelAt 2300, reelAt 5360⟩ }).boundSpeed 400 5000 1 0 50000 = 50000 := by decide +kernel

/-- R2: a count at the limit is discarded and stops the tape; a count onto the limit is not. -/
theorem test_rollerCount_at_limit :
    let s := withHead 8388607 (machineIn .wind none)
    (after (.rollerCount .forward) s).geom.head = some 8388607
      ∧ (after (.rollerCount .forward) s).seq.transport = .protectStop
      ∧ (after (.rollerCount .forward) (withHead 8388606 s)).geom.head = some 8388607
      ∧ (after (.rollerCount .forward) (withHead 8388606 s)).seq.transport = .wind := by decide +kernel

/-- R9: the reel count that brings Δn to 256 closes the window. -/
theorem test_reelCount_closes_window :
    let s := machineIn (.play .running) none
    let w := { s with geom := { s.geom with est := ⟨reelAt 4716, { reelAt 4700 with dn := 255, dl := 1206 }⟩ } }
    (after (.reelCount .takeup .winding) w).geom.est.takeup = reelAt 4716 := by decide +kernel

/-! ## Chapter 2 -/

/-- Chapter 2, start of PLAY: T at 120, A = +20,000. -/
def playStart (integ : Int) (r : Reel) (c : Int) : State :=
  let s := withParam Param.accelLimit 20000 (machineIn (.play .running) none)
  { s with
    speed := { s.speed with accel := 20000 }
    geom := { s.geom with est := s.geom.est.set r (reelAt c) }
    tension := { s.tension with axes := s.tension.axes.set r { Axis.reset with tension := 120, integ := integ } } }

/-- Chapter 2: the takeup word is 7,673 and the supply word 5,166. -/
theorem test_drive_words_at_play :
    (after (.axisServoPeriod .takeup 2150) (playStart (-40960) .takeup 4716)).tension.axes.takeup.word = 7673
      ∧ (after (.axisServoPeriod .takeup 2150) (playStart (-40960) .takeup 4716)).tension.axes.takeup.integ = -47488
      ∧ (after (.axisServoPeriod .supply 1990) (playStart 12288 .supply 3100)).tension.axes.supply.word = 5166
      ∧ (after (.axisServoPeriod .supply 1990) (playStart 12288 .supply 3100)).tension.axes.supply.integ = 16000 := by
  decide +kernel

/-- Chapter 2, clamping in a wind with the takeup limit at 8,000. -/
def windClamp (v : Int) (a : Axis) : State :=
  let s := withParam Param.takeupLimit 8000 (machineIn .wind none)
  { s with
    speed := { s.speed with accel := 25000, vRef := 30000, vMeas := v }
    tension := { s.tension with axes := s.tension.axes.set .takeup a } }

/-- Chapter 2: period 1 clamps HIGH at 8,000; period 2 skips the addition; period 3 is 6,410 with the skip still made. -/
theorem test_conditional_integration :
    let a1 := (after (.axisServoPeriod .takeup 1800) (windClamp 29000 { Axis.reset with tension := 90 })).tension.axes.takeup
    let a2 := (after (.axisServoPeriod .takeup 1800) (windClamp 29000 a1)).tension.axes.takeup
    let a3 := (after (.axisServoPeriod .takeup 1948) (windClamp 29800 a2)).tension.axes.takeup
    a1.word = 8000 ∧ a1.clamp = .high ∧ a1.satCount = 1 ∧ a1.integ = 15872 ∧ a2.satCount = 2 ∧ a2.integ = 15872
      ∧ a3.word = 6410 ∧ a3.clamp = .none ∧ a3.satCount = 0 ∧ a3.integ = 15872 := by decide +kernel

/-! ## Chapter 3 -/

/-- Chapter 3: v_meas of 61, −61 and 1 net counts. -/
theorem test_measured_speed :
    ({ running := 0, periods := [61] } : History).rate = 3812 ∧ ({ running := 0, periods := [-61] } : History).rate = -3812
      ∧ ({ running := 0, periods := [1] } : History).rate = 62 := by decide +kernel

/-- Chapter 3: stopping distances and capstan targets. -/
theorem test_stopping_and_capstan_targets :
    let ps := State.reset.ports.params
    stopDistance ps 50000 = 50050 ∧ stopDistance ps 3810 = 293 ∧ capstanTarget ps 4300 = 4000
      ∧ capstanTarget ps 4608 = 4286 ∧ capstanTarget ps 4100 = 3814 := by decide +kernel

/-- Chapter 3: the first period of a wind from the start of a tape. -/
theorem test_wind_first_period :
    let s := machineIn .wind none
    let w := { s with speed := { s.speed with requested := 50000 },
                      geom := { s.geom with est := ⟨reelAt 5400, reelAt 1852⟩ } }
    let t := after (.profileGeneratorPeriod .closed) w
    t.speed.target = 46300 ∧ t.speed.vRef = 25 ∧ t.speed.accel = 25000 := by decide +kernel

/-- R60: the entry to UNTHREADED through UNTHREADING leaves the measured speeds and histories at the reset table's values. -/
theorem test_unthreading_clears_measured :
    let s := machineIn .unthreading none
    let m := { s with
      speed := { s.speed with vMeas := 62, vCap := 31, roller := { running := 1, periods := List.replicate 16 1 } }
      tension := { s.tension with axes := s.tension.axes.set .takeup Axis.reset.release } }
    let t := after (.axisServoPeriod .supply 2048) m
    t.seq.transport = .unthreaded ∧ t.speed.vMeas = 0 ∧ t.speed.vCap = 0 ∧ t.speed.roller = .reset := by decide +kernel

/-- Chapter 3: the two capstan periods of R53's table. -/
theorem test_capstan_words :
    let s := machineIn (.play .running) none
    let a := { s with speed := { s.speed with vRef := 3810, vCap := 3795, loop := { CapstanLoop.reset with integ := 2000000 } } }
    let t := after .capstanServoPeriod a
    t.speed.loop.word = 511 ∧ t.speed.loop.integ = 2000720
      ∧ (after .capstanServoPeriod { t with speed := { t.speed with vCap := 3812 } }).speed.loop.word = 485 := by
  decide +kernel

/-! ## Chapter 6 -/

/-- Chapter 6: the spans of the splice example. -/
def spliceSpans : List Span :=
  [{ num := 0, startLen := 120000, lastLen := 220098, startAddr := 10000, pitch := 41000, anchors := 2480, isOpen := true,
     startKind := .edge, lastKind := .edge },
   { spanOf 1 640000 700000 70000 with anchors := 1380 }]

/-- Chapter 6: R111's translations. -/
theorem test_translations :
    (spliceSpans.map (fun p => p.lengthOf 12500)).head? = some 220098
      ∧ (spliceSpans.map (fun p => p.predict 220098)).head? = some 12500
      ∧ (spliceSpans.map (fun p => p.predict 220179)).head? = some 12502
      ∧ (spliceSpans.map (fun p => p.lastAddr)).head? = some 12500 := by decide +kernel

/-- A map taking reports in order. -/
def learnAll (m : MapUnit) (rs : List Stamp) : MapUnit := rs.foldl (fun m r => (m.learn (fun _ => false) 0 r).map) m

/-- Chapter 6, reading across a splice: the list after the third report. -/
theorem test_splice_makes_span :
    let m : MapUnit := { State.reset.map with spans := spliceSpans }
    (learnAll m [⟨12501, 220138⟩, ⟨48302, 220179⟩, ⟨48303, 220219⟩]).spans
      = [{ num := 0, startLen := 120000, lastLen := 220138, startAddr := 10000, pitch := 41000, anchors := 2481,
           isOpen := false, startKind := .edge, lastKind := .jump },
         { num := 2, startLen := 220179, lastLen := 220219, startAddr := 48302, pitch := 40960, anchors := 2,
           isOpen := true, startKind := .jump, lastKind := .edge },
         { spanOf 1 640000 700000 70000 with anchors := 1380 }] := by decide +kernel

/-- Chapter 6, a merge across an earlier stop: spans 2 and 3 become span 2. -/
theorem test_merge_across_stop :
    let m : MapUnit := { State.reset.map with
      spans := [{ spanOf 2 300000 304360 20000 with isOpen := true, anchors := 136 },
                { spanOf 3 304400 310000 20110 with anchors := 141 }] }
    (learnAll m [⟨20110, 304400⟩]).spans
      = [{ spanOf 2 300000 310000 20000 with isOpen := true, anchors := 278 }] := by decide +kernel

/-- Chapter 6, the splice repair: the split and the first cut. -/
theorem test_split_then_cut :
    let m : MapUnit := { State.reset.map with
      spans := [{ spanOf 5 400000 430000 60000 with isOpen := true, anchors := 751 }] }
    ((learnAll m [⟨60313, 412360⟩, ⟨60314, 412400⟩, ⟨60315, 412440⟩]).spans.map
        (fun p => (p.startLen, p.lastLen, p.startAddr, p.lastAddr, p.startKind, p.lastKind)))
      = [(400000, 412359, 60000, 60309, .edge, .cut), (412360, 412440, 60313, 60315, .jump, .edge),
         (412441, 430000, 60311, 60750, .cut, .edge)] := by decide +kernel

/-- Chapter 6: R107's stamps. -/
theorem test_stamps :
    let s := machineIn (.play .running) none
    (({ s with speed := { s.speed with vMeas := 3810 } }).stampLength 220130 = 220128)
      ∧ ({ s with speed := { s.speed with vMeas := -3000 } }).stampLength 81400 = 81402 := by decide +kernel

/-- R119 and R124: an upper part of a split shorter than 80 counts is announced REMOVED; a merge that moves the survivor's end
announces EXTENDED beside MERGED. -/
theorem test_split_and_merge_changes :
    let m : MapUnit := { State.reset.map with
      spans := [{ spanOf 5 400000 412420 60000 with isOpen := true, anchors := 751 }] }
    let a := learnAll m [⟨60313, 412360⟩]
    let k : MapUnit := { State.reset.map with
      spans := [{ spanOf 2 300000 304360 20000 with isOpen := true, anchors := 136 },
                { spanOf 3 304400 310000 20110 with anchors := 141 }] }
    (a.learn (fun _ => false) 0 ⟨60314, 412400⟩).changes.any (fun c => c matches .removed _) = true
      ∧ ((k.learn (fun _ => false) 0 ⟨20110, 304400⟩).changes.filter (fun c => c matches .extended _)) ≠ [] := by
  decide +kernel

/-! ## Chapters 7 and 8 -/

/-- Chapter 7: the two spans of the take recorded twice. -/
def takeTwice : List Span := [spanOf 0 10000 50000 1000, spanOf 1 90000 110000 1500]

/-- Chapter 7: mark 10 at 1,520 and mark 7 at 1,800 are AMBIGUOUS, mark 8 at 1,200 RESOLVED at 18,000, mark 9 UNRESOLVED. -/
theorem test_resolution :
    resolve takeTwice 1520 = .ambiguous [0, 1] ∧ resolve takeTwice 1800 = .ambiguous [0, 1]
      ∧ resolve takeTwice 1200 = .resolved 0 18000 ∧ resolve takeTwice 2300 = .unresolved := by decide +kernel

/-- Chapter 7, a pitch refinement: mark 20 falls and is confirmed again, mark 21 keeps its confirmation. -/
theorem test_pitch_refinement_moves_marks :
    let spans := [{ spanOf 4 120000 220138 10000 with pitch := 41000 }]
    let changes := [Change.extended 4, Change.refined 4]
    let m20 : Mark := { markOf [] 20 12500 with resolution := .confirmed 4 220000 }
    let m21 : Mark := { markOf [] 21 10400 with resolution := .confirmed 4 136000 }
    (m20.announced spans changes).resolution = .resolved 4 220098 ∧ m20.falls spans changes = true
      ∧ ((m20.announced spans changes).confirmedBy 2 ⟨12501, 220138⟩).resolution = .confirmed 4 220098
      ∧ (m21.announced spans changes).resolution = .confirmed 4 136016 ∧ m21.falls spans changes = false := by
  decide +kernel

/-- Chapter 8, targets: nearest candidate, ties to the lower length, extrapolation through the nearest span. -/
theorem test_targets :
    ((markOf takeTwice 7 1800).aim takeTwice 60000).map (fun a => a.length) = some 42000
      ∧ ((markOf takeTwice 7 1800).aim takeTwice 75000).map (fun a => a.length) = some 102000
      ∧ ((markOf takeTwice 7 1800).aim takeTwice 72000).map (fun a => a.length) = some 42000
      ∧ ((markOf takeTwice 9 2300).aim takeTwice 0).map (fun a => a.length) = some 62000
      ∧ (addressAim takeTwice 95000 1600).map (fun a => a.length) = some 94000 := by decide +kernel

/-- A locate to mark 20 at rest in VERIFY (chapter 8, verification). -/
def verifying (newest : Option Newest) (state : TargetState) : State :=
  let s := withMotion .locate .panel 2 (withHead 219897 (machineIn (.locate .verify) none))
  { s with locate := { s.locate with
      verifyTimer := true
      active := some { target := .mark 20, aim := 220098, targetAddr := some 12500, offset := -200, stopPoint := 219898,
                       targetState := some state, retries := 0, limit := 3, newest := newest, lastError := none } } }

/-- Chapter 8, verification: e = 0 with the report (12,494, 219,858), e = +3 with (12,491, 219,858), a miss. -/
theorem test_verification :
    (after .verifyTimerExpiry (verifying (some ⟨12494, 219858, 41000⟩) .inMap)).locate.result.map
        (fun r => (r.outcome, r.error)) = some (.verified, some 0)
      ∧ (after .verifyTimerExpiry (verifying (some ⟨12494, 219858, 41000⟩) .inMap)).seq.transport = .stopped
      ∧ (after .verifyTimerExpiry (verifying (some ⟨12491, 219858, 41000⟩) .inMap)).locate.active.map
        (fun r => (r.retries, r.lastError)) = some (1, some 3) := by decide +kernel

/-- R160: a TRAVEL that starts at rest within 2 counts of its point ends in the first generator period, without motion. -/
theorem test_travel_at_its_point :
    let s := withMotion .locate .panel 2 (withHead 120000 (machineIn (.locate .travel) none))
    let l := (s.setLocate (s.recompute (.fresh (.length 120000) 3))).headToward true 120002
    let t := after (.profileGeneratorPeriod .closed) l
    t.seq.transport = .stopped ∧ t.speed.vRef = 0
      ∧ t.locate.result.map (fun r => r.outcome) = some .unverified := by decide +kernel

/-- R48 rule 3 and R160: a later period of the same phase at v_ref 0 within 2 counts sets off again. -/
theorem test_later_period_sets_off :
    let s := withMotion .locate .panel 2 (withHead 120000 (machineIn (.locate .travel) none))
    let l := (s.setLocate (s.recompute (.fresh (.address 10500) 3))).headToward true 120100
    let m := after (.profileGeneratorPeriod .closed) l
    let z := { m with speed := { m.speed with vRef := 0, stopPoint := some 120002, pointReported := true } }
    m.speed.vRef = 25 ∧ m.speed.pointFresh = false ∧ (after (.profileGeneratorPeriod .closed) z).speed.vRef = 25 := by
  decide +kernel

/-- Chapter 7: CAPTURE_MARK stamps the head address, and RETIRE_MARKS ALL from the studio leaves the locked PANEL mark. -/
theorem test_capture_and_retire_groups :
    let s := withSpans takeTwice (withHead 18000 (machineIn .stopped none))
    let l := s.setMarks [{ markOf takeTwice 0 1200 with lock := true }, markOf takeTwice 127 1800]
    ((s.captureMark .studio 255).state.marks.map (fun m => (m.number, m.address, m.owner))) = [(0, 1200, .studio)]
      ∧ ((l.retireMarks .studio 1).state.marks.map (fun m => m.number)) = [0]
      ∧ (l.retireMarks .studio 1).results = [1#8] := by decide +kernel

/-- Chapter 8, a miss in approach: the report (30,036, 532,440) makes span 1 and moves the target behind the head. -/
theorem test_miss_in_approach :
    let s0 := withSpans [spanOf 4 400000 500000 26500] (withHead 532440 (machineIn (.locate .approach) none))
    let r : LocateRecord :=
      { target := .address 30000, aim := 540000, targetAddr := some 30000, offset := 0, stopPoint := 540000,
        targetState := some .notInMap, retries := 0, limit := 3, newest := none, lastError := none }
    let s := { s0 with map := { s0.map with candidate := some ⟨30035, 532400⟩ },
                       locate := { s0.locate with active := some r } }
    let t := after (.addressLinkFrame 0x00#8 0x75#8 0x54#8 (-(0x96#8 + 0x75#8 + 0x54#8))) s
    t.seq.transport = .locate .reposition ∧ t.locate.active.map (fun r => (r.retries, r.stopPoint)) = some (1, 531000)
      ∧ t.speed.stopPoint = some 523380 := by decide +kernel

/-! ## Chapters 4, 5 and 9 -/

/-- Chapter 5, judging with the default levels: studio STOP over a panel locate is BUSY, a panel LOCATE preempts a studio
SHUTTLE without a push. -/
theorem test_judging :
    let s := withMotion .locate .panel 2 (machineIn (.locate .travel) none)
    let w := withMotion .shuttle .studio 1 (withSpans takeTwice (withHead 180220 (machineIn .shuttle none)))
    (s.motion .studio .stop).2 = .busy
      ∧ (w.motion .panel (.locateAddress 1200)).2 = .ok
      ∧ (w.motion .panel (.locateAddress 1200)).1.arb.returns = []
      ∧ ((w.motion .panel (.locateAddress 1200)).1.ports.studio.has .preempted) = true := by decide +kernel

/-- Chapter 5: a panel PLAY breaks a chase rolling at level 1 and starts in RUNNING. -/
theorem test_chase_break :
    let s0 := withMotion .chase .chase 1 (machineIn (.chase .rolling) none)
    let s := (s0.setChase .granted).setChaseLine true
    let r := s.motion .panel .play
    r.2 = .ok ∧ r.1.seq.transport = .play .running ∧ r.1.arb.chase = .spent ∧ r.1.ports.panel.has .chaseBroken = true
      ∧ r.1.ports.panel.has .preempted = false ∧ r.1.seq.outputs.grant = false := by decide +kernel

/-- R64, R75 and R87: a panel STOP above the record's level in the halt of a STARTING chase changes nothing. -/
theorem test_stop_in_halting_changes_nothing :
    let s := withMotion .stop .chase 1 ((machineIn .halting (some .reel)).setChase .starting)
    s.motion .panel .stop = (s, .ok) := by decide +kernel

/-- Chapter 11, a chase session: the line rising in STOPPED grants PARKED; falling in ROLLING releases under the capstan. -/
theorem test_chase_session :
    let g := after .chaseRequestRise (machineIn .stopped none)
    let s0 := withMotion .chase .chase 1 (machineIn (.chase .rolling) none)
    let s := (s0.setChase .granted).setChaseLine true
    let f := after .chaseRequestFall { s with speed := { s.speed with vRef := 4286 } }
    g.seq.transport = .chase .parked ∧ g.arb.chase = .granted ∧ g.seq.outputs.grant = true
      ∧ f.seq.transport = .chase .releasing ∧ f.speed.kind = some .capstan ∧ f.seq.outputs.pinchDown = true := by
  decide +kernel

/-- Chapter 9, a stop that escalates: OVER_TENSION in WIND, then TENSION_LOSS. -/
theorem test_stop_escalates :
    let s0 := withMotion .wind .panel 2 (withHead 305200 (machineIn .wind none))
    let s := { s0 with due := [.high .takeup, .low .supply], speed := { s0.speed with vRef := 40000, vMeas := 39937 } }
    let a := after (.highCountLimit .takeup) s
    let b := after (.lowCountLimit .supply) a
    a.seq.transport = .protectStop ∧ a.speed.kind = some .reel
      ∧ a.prot.report.map (fun r => (r.cause, r.axis, r.transport, r.motion))
        = some (.overTension, .takeup, .wind, some (.wind, .panel))
      ∧ b.seq.transport = .faulted ∧ b.prot.report.map (fun r => r.later) = some [.tensionLoss]
      ∧ b.ports.panel.has .fault = true ∧ b.ports.panel.has .protectedStop = false := by decide +kernel

/-- Chapter 4: leader appearing in PLAY halts it under the capstan. -/
theorem test_leader_halts_play :
    let s0 := withMotion .play .panel 2 (machineIn (.play .running) none)
    let s := { s0 with speed := { s0.speed with vRef := 3810, vMeas := 3812 } }
    let t := after (.leaderSensorChange .leader true) s
    t.seq.transport = .halting ∧ t.seq.restDest = some .stopped ∧ t.speed.kind = some .capstan
      ∧ t.arb.active = some { kind := .stop, source := .panel, level := 2 } := by decide +kernel

/-- Chapter 4: CLEAR_FAULT with the head length absent enters UNTHREADED; with it defined, THREADING. -/
theorem test_clear_fault :
    let s := machineIn .faulted none
    (({ s with geom := { s.geom with head := none } }).motion .panel .clearFault).1.seq.transport = .unthreaded
      ∧ (s.motion .panel .clearFault).1.seq.transport = .threading
      ∧ (s.motion .panel .clearFault).1.geom.head = some 0 := by decide +kernel

/-! ## Chapters 10 and 11 -/

/-- Chapter 11, loading a profile: CLAMPED with Nmax 40,960, and the positions of slot 1. -/
theorem test_set_profile :
    let c := State.reset.setProfile 1 1795 4200 45000 [250, 330, 460, 640, 880, 1180, 1560, 2020]
    c.status = .clamped
      ∧ (c.state.geom.slotProfile 1).map (fun p => p.nmax) = some 40960
      ∧ (c.state.geom.slotProfile 1).map (fun p => (List.range 8).map p.pointPos)
        = some [1795, 2138, 2482, 2825, 3169, 3512, 3856, 4200] := by decide +kernel

/-- Chapter 10: READ_PARAMETER 0 from reset answers 3,810 with its range and default, in a whole response frame. -/
theorem test_panel_read_parameter :
    let t := after (.panelDeassertion (frameOf 27 [0#8]) .closed) State.reset
    t.ports.panel.held
      = some [0#8, 25#8, 0x21#8, 0#8, 1#8, 0#8, 0#8, 16#8, 0#8, 0#8, 0x0E#8, 0xE2#8, 0#8, 0#8, 0x07#8, 0x71#8,
              0#8, 0#8, 0x0E#8, 0xE2#8, 0#8, 0#8, 0x0E#8, 0xE2#8, 0x6D#8] := by decide +kernel

/-- Chapter 10: THREAD is not permitted to the studio, and the slot carries no results. -/
theorem test_studio_thread_not_permitted :
    (after (.studioFrameArrival (frameOf 8 [0#8, 0#8]) .closed) State.reset).ports.studio.held
      = some (response 0x21#8 .ok [⟨.notPermitted, []⟩]) := by decide +kernel

/-- R190: a frame over an unread response raises RESPONSE_LOST on its port alone. -/
theorem test_response_lost :
    let t := after (.panelDeassertion (frameOf 1 []) .closed)
      (after (.panelDeassertion (frameOf 28 []) .closed) State.reset)
    t.ports.panel.has .responseLost = true ∧ t.ports.studio.has .responseLost = false := by decide +kernel

/-- R203: the second non-sync byte of a run counts no more. -/
theorem test_lost_sync_once :
    (after .lostSync (after .lostSync State.reset)).map.linkErrors = 1
      ∧ (after .linkGapTimeout (after .syncByte State.reset)).map.linkErrors = 1
      ∧ (after .linkFramingError State.reset).map.linkErrors = 0 := by decide +kernel

/-! ## Witnesses of the obligations

Each theorem gives states and operands that meet the hypotheses of the obligation it names, clause by clause. -/

/-- The same with one OPEN span and a gap count. -/
def reading (gap : Nat) (isOpen : Bool) : State :=
  let s := machineIn (.play .running) none
  { s with map := { s.map with spans := [{ spanOf 0 120000 220098 10000 with isOpen := isOpen }], gapCount := gap } }

/-- A wind started with the stop line asserted, an older raised event before the catch. -/
def caughtWind : State :=
  { withMotion .wind .panel 2 (machineIn .wind none) with due := [.tapeOut, .extStopCatch] }

/-- R178: the catch goes before an older raised event and before a queued command, and its record names the motion. -/
theorem test_catch_goes_first :
    let q := { caughtWind with pending := [.tapeOutCountLimit] }
    (step caughtWind = exec .extStopLevelCatch caughtWind)
      ∧ (after .tapeOutCountLimit q).prot.report.map (fun r => (r.cause, r.motion, r.later))
        = some (.extStop, some (.wind, .panel), [.tapeOut])
      ∧ (after .tapeOutCountLimit q).seq.transport = .faulted ∧ (after .tapeOutCountLimit q).due = []
      ∧ (after (.rollerCount .forward) caughtWind).seq.transport = .protectStop := by
  refine ⟨rfl, ?_⟩; decide +kernel

theorem witness_CatchThenOldestRaisedEventTaken :
    (({ State.reset with due := [.tapeOut] }).pending = [] ∧ ({ State.reset with due := [.tapeOut] }).due = .tapeOut :: []
        ∧ Due.extStopCatch ∉ ({ State.reset with due := [.tapeOut] }).due)
      ∧ ((reading 320 true).due = [] ∧ (reading 320 true).map.gapCount = 320
        ∧ ∃ p ∈ (reading 320 true).map.spans, p.isOpen = true)
      ∧ ((reading 319 true).due = [] ∧ (reading 319 true).map.gapCount ≠ 320)
      ∧ ((reading 320 false).due = [] ∧ ∀ p ∈ (reading 320 false).map.spans, p.isOpen = false) := by
  decide +kernel

theorem witness_CatchThenOldestRaisedEventTaken_catch :
    ∃ t, exec .extStopLevelCatch caughtWind = .next t ∧ Due.extStopCatch ∈ caughtWind.due ∧ caughtWind.pending = []
      ∧ Instr.lostSync ≠ .extStopLevelCatch ∧ ∀ l, Instr.lostSync ≠ .deviceReset l :=
  ⟨_, rfl, by decide +kernel, by decide +kernel, by decide, fun _ => by simp⟩

/-- The shortest legal frame: STOP alone (R189). -/
def stopSlot : Slot := ⟨0, 0, []⟩

/-- Four legal slots, the motion request last and two of them conditional. -/
def fourSlots : List Slot := [⟨28, 0, []⟩, ⟨29, 1, []⟩, ⟨31, 0, [0#8, 0#8, 0#8, 0#8, 0#8]⟩, ⟨11, 1, [0#8, 0#8]⟩]

theorem witness_PartialFrameOnlyReleasesAndRefusedFrameOnlyAnswers :
    (([] : List Byte).length < 2 ∧ [0x21#8].length < 2 ∧ [0x21#8, 0#8][1]? = some 0#8)
      ∧ FitsFrame [stopSlot] ∧ 2 < (frameBytes 0x21#8 [stopSlot]).length
      ∧ 2 ≤ 5 ∧ 5 < (frameBytes 0x21#8 [stopSlot]).length
      ∧ Due.extStopCatch ∉ State.reset.due := by
  unfold FitsFrame; decide +kernel

theorem witness_FrameTestsInOrder_legal :
    FitsFrame [stopSlot] ∧ FrameLegal [stopSlot]
      ∧ FitsFrame fourSlots ∧ FrameLegal fourSlots := by
  unfold FitsFrame FrameLegal; simp [stopSlot, fourSlots, operandLengths]

theorem witness_FrameTestsInOrder_illegal :
    (FitsFrame [⟨32, 0, []⟩] ∧ ¬ FrameLegal [⟨32, 0, []⟩])
      ∧ (FitsFrame [⟨0, 1, []⟩] ∧ ¬ FrameLegal [⟨0, 1, []⟩])
      ∧ (FitsFrame [stopSlot, ⟨28, 0, []⟩] ∧ ¬ FrameLegal [stopSlot, ⟨28, 0, []⟩]) := by
  unfold FitsFrame FrameLegal; simp [stopSlot, operandLengths]

/-- A frame whose bytes sum to 0 and whose one slot claims more operand bytes than it has. -/
def unfilled : List Byte := [1#8, 1#8, 0#8, 0#8, 3#8, -5#8]

theorem witness_FrameTestsInOrder_bytes :
    ([1#8, 1#8, 0#8, 0#8, 0#8].length < 6)
      ∧ (6 ≤ [1#8, 1#8, 0#8, 0#8, 0#8, 0#8].length ∧ byteSum [1#8, 1#8, 0#8, 0#8, 0#8, 0#8] ≠ 0)
      ∧ (4 ≤ [0#8, 0#8, 0#8, -1#8].length ∧ byteSum (1#8 :: 0#8 :: [0#8, 0#8, 0#8, -1#8]) = 0)
      ∧ (4 < (5#8).toNat ∧ byteSum (1#8 :: 5#8 :: [0#8, 0#8, 0#8, -6#8]) = 0)
      ∧ 4 < (5#8).toNat ∧ 4 < (255#8).toNat
      ∧ (0#8 ≠ -byteSum (frameBody 1#8 [stopSlot])) := by decide +kernel

theorem witness_FrameTestsInOrder_unfilled :
    6 ≤ unfilled.length ∧ byteSum unfilled = 0
      ∧ ∀ (tag : Byte) (slots : List Slot), FitsFrame slots → unfilled ≠ frameBytes tag slots := by
  refine ⟨by decide, by decide, fun tag slots hs he => ?_⟩
  match slots, hs with
  | x :: rest, ⟨_, _, hx⟩ =>
    have hl := congrArg List.length he
    have h4 := congrArg (fun l : List Byte => l[4]?) he
    have hk := (hx x (by simp)).2.2
    simp [frameBytes, frameBody, Slot.bytes, unfilled] at h4 hl
    have hn := congrArg BitVec.toNat h4
    simp [Nat.mod_eq_of_lt hk] at hn
    omega

theorem witness_PartialFrameOnlyReleasesAndRefusedFrameOnlyAnswers_refused :
    studioFrame [] = .refused .frameIllegal 0#8
      ∧ studioFrame [1#8, 1#8, 0#8, 0#8, 0#8, 0#8] = .refused .frameCheck 1#8
      ∧ panelFrame [1#8, 5#8] = some (.refused .frameIllegal 1#8)
      ∧ panelFrame [1#8, 1#8, 0#8, 0#8, 0#8, 0#8] = some (.refused .frameCheck 1#8)
      ∧ Due.extStopCatch ∉ State.reset.due := by decide +kernel

/-- The first and the last request kind, and a legal frame of four slots with a byte clocked after it. -/
theorem witness_LegalFrameRunsItsSlots :
    Due.extStopCatch ∉ State.reset.due
      ∧ operandLengths[0]? = some ([] : List Byte).length ∧ operandLengths[31]? = some (List.replicate 5 0#8).length
      ∧ FitsFrame fourSlots ∧ FrameLegal fourSlots
      ∧ ∃ more mosi, mosi = frameBytes 0x21#8 fourSlots ++ more ∧ more = [0#8] := by
  refine ⟨by decide +kernel, by decide +kernel, by decide +kernel, ?_, ?_, [0#8], _, rfl, rfl⟩ <;>
    simp [FitsFrame, FrameLegal, fourSlots, operandLengths]

theorem witness_ConditionalSlotsRunAfterAccepted :
    (⟨28, 0, []⟩ : Slot).condition = 0 ∧ (⟨28, 1, []⟩ : Slot).condition = 1
      ∧ ∀ x ∈ [(⟨28, 1, []⟩ : Slot), ⟨29, 1, []⟩], x.condition = 1 := by decide

theorem witness_ResponseCarriesLengthAndCheck :
    (response 1#8 .frameCheck []).length < 65536
      ∧ (response 1#8 .ok (List.replicate 4 ⟨.ok, List.replicate 255 0#8⟩)).length < 65536
      ∧ ((State.reset.carryOut .panel 11 [0#8, 0#8]).status ≠ .ok ∧ (State.reset.carryOut .panel 11 [0#8, 0#8]).status ≠ .clamped)
      := by decide +kernel

theorem witness_RightsTestOfEachPort :
    ((Port.panel = .panel ∧ 11 = 11) ∧ 11 ≤ 31) ∧ (26 ≤ 31 ∧ 26 ∈ [8, 9, 10, 16, 17, 23, 24, 26])
      ∧ ¬((Port.studio = .panel ∧ 31 = 11) ∨ (Port.studio = .studio ∧ 31 ∈ [8, 9, 10, 16, 17, 23, 24, 26])) := by decide

/-- The fields of the operands, at the ends of their ranges. -/
theorem witness_RightsTestOfEachPort_operands :
    ∃ (q : Nat → Byte) (word : Byte → Byte → Byte → Byte → Int) (half : Byte → Byte → Int) (v : Nat → Int)
        (motion : Port → MotionReq → Carried),
      (∀ a b c d, word a b c d = ((a.toNat * 16777216 + b.toNat * 65536 + c.toNat * 256 + d.toNat : Nat) : Int)
        - (if 128 ≤ a.toNat then 4294967296 else 0))
      ∧ (∀ a b, half a b = ((a.toNat * 256 + b.toNat : Nat) : Int) - (if 128 ≤ a.toNat then 65536 else 0))
      ∧ (∀ i, v i = word (q (4 * i)) (q (4 * i + 1)) (q (4 * i + 2)) (q (4 * i + 3)))
      ∧ (∀ p req, motion p req
          = { state := (State.reset.motion p req).1, status := (State.reset.motion p req).2, results := [] })
      ∧ word 0x80#8 0#8 0#8 0#8 = -2147483648 ∧ word 0x7F#8 0xFF#8 0xFF#8 0xFF#8 = 2147483647
      ∧ half 0x80#8 0#8 = -32768 ∧ half 0x7F#8 0xFF#8 = 32767 :=
  ⟨fun _ => 0x80#8, _, _, _, _, fun _ _ _ _ => rfl, fun _ _ => rfl, fun _ => rfl, fun _ _ => rfl,
    by decide, by decide, by decide, by decide⟩

/-- R195 and R196: PLACE_MARK 7 at 65,537 with a trim of -2, and a WIND at -3. -/
theorem test_operands_of_requests :
    requestOf 12 [7#8, 0#8, 1#8, 0#8, 1#8, 0xFF#8, 0xFE#8] = .placeMark 7 65537 (-2)
      ∧ requestOf 2 [0xFF#8, 0xFF#8, 0xFF#8, 0xFD#8] = .motion (.wind (-3)) := by decide

/-- A report held and none, a mark held and none, and the ends of every operand's range. -/
theorem witness_ReadsAnswerTheStateAsItStands :
    let s := (withHead 8388607 (machineIn .wind none)).capture .extStop .none
    let m := s.setMarks [markOf takeTwice 127 1800]
    State.reset.prot.report = none ∧ s.prot.report.isSome = true
      ∧ (markAt m.marks (127#8).toNat).isSome = true ∧ markAt m.marks (0#8).toNat = none
      ∧ (127 < (128#8).toNat ∧ (127#8).toNat ≤ 127 ∧ 95 < (96#8).toNat ∧ (95#8).toNat ≤ 95)
      ∧ (3 < (4#8).toNat ∧ (3#8).toNat ≤ 3 ∧ 37 < (38#8).toNat)
      ∧ (paramRows[(0#8).toNat]?).isSome = true ∧ (paramRows[(37#8).toNat]?).isSome = true := by decide +kernel

theorem witness_ClearFlagsTouchesItsPortAlone : 1 < 2 ∧ 0 ≤ 1 ∧ 1 ≤ 1 := by decide

theorem witness_SetParameterStoresInRange :
    37 < 38 ∧ State.reset.ports.params.length = 38
      ∧ [0, 26, 37, Param.supplyLimit, Param.takeupLimit, Param.capstanLimit].all (fun n => (paramRows[n]?).isSome) = true
      ∧ State.reset.arb.chase ≠ .waiting ∧ Param.capstanLimit < Param.panelLevel ∧ Param.lockoutLevel < 37 := by
  decide +kernel

theorem witness_SetProfileChecksAndClamps :
    let s := machineIn .stopped none
    3 < 4 ∧ s.geom.bound.supply = some 0 ∧ s.geom.bound.supply ≠ some 3 ∧ s.geom.bound.takeup ≠ some 3 := by decide +kernel

/-- The head at a span's start, and mark 0 held so that 1 is the lowest free number. -/
theorem witness_PlaceAndCaptureMakeResolvedRecord :
    let s := withSpans takeTwice (withHead 10000 (machineIn .stopped none))
    let m := s.setMarks [markOf takeTwice 0 1200]
    (markAt State.reset.marks 0 = none ∧ markAt State.reset.marks 127 = none ∧ (0 : Int) ≤ 16777215)
      ∧ (s.geom.head = some 10000 ∧ markAt s.marks 127 = none
        ∧ s.map.spans.find? (fun p => decide (p.startLen ≤ 10000) && decide (10000 ≤ p.lastLen))
          = some (spanOf 0 10000 50000 1000))
      ∧ markAt m.marks 1 = none ∧ ∀ j, j < 1 → markAt m.marks j ≠ none := by decide +kernel

/-- No span, one and two, at the ends of the address ranges 1,000..2,000 and 1,500..2,000. -/
theorem witness_PlaceAndCaptureMakeResolvedRecord_spans :
    [999, 1000, 1499, 1500, 2000, 2001].map (fun a : Int =>
      (takeTwice.filter (fun p => decide (p.startAddr ≤ a)
        && decide (a ≤ p.startAddr + roundDiv ((p.lastLen - p.startLen) * 1024) p.pitch))).map (fun p => p.num))
      = [[], [0], [0], [0, 1], [0, 1], []] := by decide +kernel

/-- Log entry 37: the last address of a span that ends at 8,388,607 lies past it by R111's translation. -/
theorem test_resolved_length_past_the_range :
    resolve [spanOf 0 8388500 8388607 1000] 1003 = .resolved 0 8388620 := by decide +kernel

/-- A part holding a locked mark 0 and an unlocked mark 127, both of the panel. -/
def marked : State :=
  let s := withSpans takeTwice (withHead 60000 (machineIn .stopped none))
  s.setMarks [{ markOf takeTwice 0 1200 with lock := true }, markOf takeTwice 127 1800]

theorem witness_MarkChangesAndRefusals :
    markAt marked.marks 0 = some { markOf takeTwice 0 1200 with lock := true }
      ∧ markAt marked.marks 127 = some (markOf takeTwice 127 1800) ∧ (markOf takeTwice 127 1800).owner = .panel
      ∧ (markOf takeTwice 127 1800).lock = false := by
  decide +kernel

/-- The refusals of R133: the ends of the ranges, a number held and one not held, a STUDIO mark, a locked PANEL mark, no head
address, and a full table. -/
theorem witness_MarkChangesAndRefusals_refused :
    let f := marked.setMarks ((List.range 128).map (fun n => markOf [] n 1200))
    let u := marked.setMarks [{ markOf takeTwice 0 1200 with owner := .studio }]
    (127 < 128 ∧ (128 : Nat) ≠ 255 ∧ (-1 : Int) < 0 ∧ (16777215 : Int) < 16777216)
      ∧ (markAt marked.marks 1 = none ∧ markAt marked.marks 126 = none
        ∧ headAddress marked.map.spans marked.geom.head = none)
      ∧ ((markAt marked.marks 0).map (fun m => (m.owner, m.lock))) = some (.panel, true)
      ∧ ((markAt u.marks 0).map (fun m => m.owner)) = some .studio
      ∧ ∀ j, j < 128 → markAt f.marks j ≠ none := by decide +kernel

/-- A locate to mark 127 in travel. -/
def locating (t : Transport) : State :=
  let s := withMotion .locate .panel 2 { marked with
    seq := { marked.seq with transport := t, outputs := t.outputs none }
    speed := { marked.speed with mode := t.genMode } }
  s.setLocate (s.recompute (.fresh (.mark 127) 3))

theorem witness_RetirementRemovesMarksAndFailsLocate :
    (∃ m, markAt (locating (.locate .travel)).marks 127 = some m)
      ∧ ((locating (.locate .travel)).locate.active.map (fun r => r.target)) = some (.mark 127)
      ∧ ((locating (.chase (.locating .travel))).locate.active.map (fun r => r.target)) = some (.mark 127)
      ∧ (∃ m, markAt marked.marks 127 = some m ∧ (Port.studio = .panel ∨ m.lock = false))
      ∧ (∃ m, markAt marked.marks 0 = some m ∧ (Port.panel = .panel ∨ m.lock = false)) ∧ marked.locate.active = none := by
  refine ⟨⟨markOf takeTwice 127 1800, by decide +kernel⟩, by decide +kernel, by decide +kernel,
    ⟨markOf takeTwice 127 1800, by decide +kernel⟩, ⟨{ markOf takeTwice 0 1200 with lock := true }, by decide +kernel⟩,
    by decide +kernel⟩

/-- RETIRE_MARKS at the ends of its scope: scope 0 of the panel takes both marks, scope 1 of the studio leaves the locked one
and takes the mark of the locate in force. -/
theorem witness_RetirementRemovesMarksAndFailsLocate_group :
    let gone (port : Port) (scope : Nat) (m : Mark) : Bool :=
      decide (m.owner = port) || (decide (scope = 1) && (decide (port = .panel) || !m.lock))
    (1 < 2 ∧ 0 ≤ 1 ∧ 1 ≤ 1)
      ∧ (marked.marks.map (gone .panel 0) = [true, true]) ∧ (marked.marks.map (gone .studio 0) = [false, false])
      ∧ (marked.marks.map (gone .studio 1) = [false, true])
      ∧ markOf takeTwice 127 1800 ∈ (locating (.locate .travel)).marks := by decide +kernel

theorem witness_LockedPanelMarkKeptFromStudio :
    ∃ t, exec (.studioFrameArrival (frameOf 14 [0#8, 0#8, 0#8, 0#8, 9#8]) .closed) marked = .next t
      ∧ MarksWellFormed marked.marks
      ∧ ∃ m ∈ marked.marks, m.owner = .panel ∧ m.lock = true :=
  ⟨_, rfl, by unfold MarksWellFormed; decide +kernel, by decide +kernel⟩

theorem witness_MarksStayWellFormed :
    ∃ t, step { marked with pending := [.panelDeassertion (frameOf 19 [1#8]) .closed] } = .next t
      ∧ MarksWellFormed marked.marks :=
  ⟨_, rfl, by unfold MarksWellFormed; decide +kernel⟩

theorem witness_MarksStayResolved :
    ∃ t, step { marked with pending := [.panelDeassertion (frameOf 23 []) .closed] } = .next t
      ∧ SpansWellFormed marked.map.spans ∧ MarksResolved marked :=
  ⟨_, rfl, by unfold SpansWellFormed; decide +kernel, by unfold MarksResolved; decide +kernel⟩

theorem witness_SpansStayWellFormed :
    ∃ t, step { reading 0 true with pending := [.addressLinkFrame 0x00#8 0x30#8 0xD5#8 0x65#8] } = .next t
      ∧ SpansWellFormed (reading 0 true).map.spans :=
  ⟨_, rfl, by unfold SpansWellFormed; decide +kernel⟩

theorem witness_ReceiveEventsLinkErrorsAndUnacceptedReports :
    (0x96#8 + 1#8 + 2#8 + 3#8 + 0#8 ≠ 0) ∧ State.reset.ports.linkRx = .hunt false
      ∧ (State.reset.setLinkRx .collecting).ports.linkRx = .collecting
      ∧ (State.reset.setLinkRx (.hunt true)).ports.linkRx ≠ .hunt false
      ∧ State.reset.ports.linkRx ≠ .collecting
      ∧ (0x96#8 + 0x00#8 + 0x30#8 + 0xD5#8 + 0x65#8 = 0) ∧ State.reset.geom.head = none
      ∧ (machineIn .wind none).seq.transport.reading = false
      ∧ Due.extStopCatch ∉ State.reset.due ∧ Due.extStopCatch ∉ (machineIn .wind none).due := by decide +kernel

theorem witness_ReceiveEventsLinkErrorsAndUnacceptedReports_speed :
    let s := reading 0 true
    paramOf s.ports.params Param.reportSpeed < mag ({ s with speed := { s.speed with vMeas := 7621 } }).speed.vMeas := by
  decide +kernel

/-- A locate to an address in APPROACH or VERIFY above a CLOSED span that holds it, at its retry limit or below. -/
def approaching (t : Transport) (retries : Nat) (head : Int) : State :=
  let s := withMotion .locate .panel 2 (withSpans [spanOf 0 100000 140000 10000] (withHead head (machineIn t none)))
  s.setLocate (s.recompute { LocateRecord.fresh (.address 10500) 3 with retries := retries })

theorem witness_AcceptedReportIsLearned :
    let s := reading 0 true
    let f := { s with speed := { s.speed with vMeas := 7620 } }
    (0x96#8 + 0x00#8 + 0x30#8 + 0xD5#8 + 0x65#8 = 0) ∧ f.geom.head = some 0 ∧ f.seq.transport.reading = true
      ∧ mag f.speed.vMeas ≤ paramOf f.ports.params Param.reportSpeed ∧ f.locate.active = none
      ∧ Due.extStopCatch ∉ f.due := by decide +kernel

/-- A handed report of address 10,500 in VERIFY, and in APPROACH with the stopping point at the bound h - 2 and behind it, at
the retry limit and below. -/
theorem witness_AcceptedReportIsLearned_locate :
    (0x96#8 + 0x00#8 + 0x29#8 + 0x04#8 + 0x3D#8 = 0)
      ∧ (approaching (.locate .verify) 0 120000).seq.transport.locatePhase = some .verify
      ∧ (approaching (.chase (.locating .verify)) 0 120000).locate.active.isSome = true
      ∧ [(120002, 3), (120003, 3), (120003, 2)].map (fun c : Int × Nat =>
          let s := approaching (.locate .approach) c.2 c.1
          (decide (s.seq.transport.locatePhase = some .approach ∧ s.seq.transport.reading = true
              ∧ s.geom.head = some c.1),
            s.locate.active.map (fun r =>
              (r.target.verifying, decide (c.1 - 2 ≤ r.stopPoint), decide (r.retries = r.limit)))))
        = [(true, some (true, true, true)), (true, some (true, false, true)), (true, some (true, false, false))]
      ∧ Due.extStopCatch ∉ (approaching (.locate .approach) 2 120003).due := by
  decide +kernel

/-- The marks' clauses: a confirmation whose span stands with the length moved by 40 and by 41 counts, and one whose span is
gone; a mark off the map; the address off by 1 and by 2, and the length at the window's end and one past it. -/
theorem witness_AcceptedReportIsLearned_marks :
    let p := { spanOf 4 120000 220138 10000 with pitch := 41000 }
    let window := paramOf State.reset.ports.params Param.locateWindow * 40
    (resolve [p] 12500 = .resolved 4 220098 ∧ successor [.extended 4, .refined 4] 4 = some 4
        ∧ mag ((220098 : Int) - 220058) ≤ 40 ∧ 40 < mag ((220098 : Int) - 220057)
        ∧ successor [.removed (some 4)] 4 ≠ some 4)
      ∧ resolve [p] 99999 = .unresolved
      ∧ (mag ((12501 : Int) - 12500) ≤ 1 ∧ 1 < mag ((12498 : Int) - 12500))
      ∧ (mag (220098 + window - 220098) ≤ window ∧ window < mag (220098 + window + 1 - 220098)) := by decide +kernel

theorem witness_CandidatePairMakesSpanSplitsAndEvicts :
    let c : Stamp := ⟨1000, 4000⟩
    let far (a : Int) := mag ((a - 1000) - roundDiv ((4040 - 4000) * 1024) 40960)
    State.reset.map.spans = [] ∧ State.reset.map.growing = none ∧ State.reset.map.candidate = none
      ∧ ({ State.reset.map with candidate := some c }).candidate = some c
      ∧ ((1003 : Int) ≠ c.address ∧ far 1003 ≤ 2 ∧ (4040 : Int) ≠ c.length)
      ∧ ((1004 : Int) ≠ c.address ∧ 2 < far 1004) := by decide +kernel

/-- A split with both parts at their shortest, and both reports 3 units off the old span. -/
theorem witness_CandidatePairMakesSpanSplitsAndEvicts_split :
    let q := spanOf 5 400000 400202 60000
    let c : Stamp := ⟨60005, 400081⟩
    let r : Stamp := ⟨60006, 400121⟩
    let off (x : Stamp) := mag (x.address - (q.startAddr + roundDiv ((x.length - q.startLen) * 1024) q.pitch))
    ({ State.reset.map with spans := [q] }).spans = [q] ∧ q.isOpen = false ∧ r.address ≠ c.address
      ∧ mag ((r.address - c.address) - roundDiv ((r.length - c.length) * 1024) 40960) ≤ 2
      ∧ c.length < r.length ∧ 2 < off c ∧ 2 < off r
      ∧ q.startLen + 81 ≤ c.length ∧ r.length + 81 ≤ q.lastLen := by decide +kernel

/-- A full map, its last span the farthest from a head at 0, with every span held and with none. -/
theorem witness_CandidatePairMakesSpanSplitsAndEvicts_full :
    let spans := (List.range 96).map (fun n => spanOf n (1000 * n) (1000 * n + 500) 0)
    let dist (p : Span) : Int := if 0 < p.startLen then p.startLen - 0 else if p.lastLen < 0 then 0 - p.lastLen else 0
    let c : Stamp := ⟨900000, 460⟩
    let r : Stamp := ⟨900001, 500⟩
    spans.length = 96 ∧ r.address ≠ c.address
      ∧ mag ((r.address - c.address) - roundDiv ((r.length - c.length) * 1024) 40960) ≤ 2
      ∧ (∀ p ∈ spans, p.isOpen = true ∨ (p.startLen - 80 ≤ r.length ∧ r.length ≤ p.lastLen + 80) →
        2 < mag (r.address - (p.startAddr + roundDiv ((r.length - p.startLen) * 1024) p.pitch)))
      ∧ spanOf 95 95000 95500 0 ∈ spans
      ∧ ∀ p ∈ spans, p.isOpen = false → p ≠ spanOf 95 95000 95500 0 → dist p < dist (spanOf 95 95000 95500 0) := by
  decide +kernel

theorem witness_ReportsExtendReopenMergeAndCutSpans :
    let p : Span := { spanOf 0 120000 122520 10000 with isOpen := true }
    p.isOpen = true ∧ p.startLen ≤ p.lastLen ∧ p.lastLen < 122521
      ∧ mag (10063 - (p.startAddr + roundDiv ((122521 - p.startLen) * 1024) p.pitch)) ≤ 2
      ∧ ¬ 64 ≤ mag (10063 - p.startAddr)
      ∧ mag (10064 - (p.startAddr + roundDiv ((122563 - p.startLen) * 1024) p.pitch)) ≤ 2
      ∧ 64 ≤ mag (10064 - p.startAddr) := by decide +kernel

/-- A CLOSED span met inside, at 80 counts past either end, and not at 81. -/
theorem witness_ReportsExtendReopenMergeAndCutSpans_reopen :
    let p := spanOf 0 120000 122520 10000
    p.startLen ≤ p.lastLen ∧ p.isOpen = false
      ∧ [(10000, 120000), (10063, 122520), (9998, 119920), (10065, 122600)].all (fun c : Int × Int =>
          decide (mag (c.1 - (p.startAddr + roundDiv ((c.2 - p.startLen) * 1024) p.pitch)) ≤ 2)
            && decide (p.startLen - 80 ≤ c.2 ∧ c.2 ≤ p.lastLen + 80)) = true
      ∧ ¬ p.startLen - 80 ≤ 119919 ∧ ¬ (122601 : Int) ≤ p.lastLen + 80 := by decide +kernel

/-- An OPEN span grown onto its neighbour: their addresses 2 units apart (a merge) and 3 (a conflict), the neighbour's rest at
its shortest, and one count shorter; and the neighbour's end at the report's own length. -/
theorem witness_ReportsExtendReopenMergeAndCutSpans_neighbour :
    let p := { spanOf 2 300000 302000 20000 with isOpen := true }
    let q (off last : Int) := spanOf 3 302040 last (20051 + off)
    let r : Stamp := ⟨20052, 302080⟩
    (p.startLen ≤ p.lastLen ∧ p.lastLen < (q 2 303000).startLen ∧ (q 2 303000).startLen ≤ r.length
        ∧ mag (r.address - (p.startAddr + roundDiv ((r.length - p.startLen) * 1024) p.pitch)) ≤ 2)
      ∧ ¬ 64 ≤ mag (r.address - p.startAddr)
      ∧ mag (p.startAddr + roundDiv (((q 2 303000).startLen - p.startLen) * 1024) p.pitch - (q 2 303000).startAddr) ≤ 2
      ∧ 2 < mag (p.startAddr + roundDiv (((q 3 303000).startLen - p.startLen) * 1024) p.pitch - (q 3 303000).startAddr)
      ∧ r.length + 81 ≤ (q 3 302161).lastLen ∧ (q 3 302160).lastLen < r.length + 81
      ∧ (q 3 302160).startLen ≤ (q 3 302160).lastLen
      ∧ (q 2 302080).lastLen = r.length ∧ (q 2 302080).startLen ≤ (q 2 302080).lastLen := by decide +kernel

theorem witness_ReportsExtendReopenMergeAndCutSpans_gap :
    ((reading 320 true).map.gapCount = 320 ∧ ∃ p ∈ (reading 320 true).map.spans, p.isOpen = true)
      ∧ (reading 319 true).map.gapCount ≠ 320 ∧ ∀ p ∈ (reading 320 false).map.spans, p.isOpen = false
      ∧ Due.extStopCatch ∉ (reading 320 true).due := by
  decide +kernel

theorem witness_ForgetMapUnlessLocateOrChase :
    let s := withMotion .locate .panel 2 (machineIn (.locate .travel) none)
    let c := (machineIn .halting (some .reel)).setChase .starting
    let w := withMotion .play .panel 2 (reading 0 true)
    (s.arb.active.map (fun m => m.kind)) = some .locate ∧ c.arb.chase = .starting
      ∧ (∀ m, w.arb.active = some m → m.kind ≠ .locate ∧ m.kind ≠ .chase) ∧ w.arb.chase = .idle
      ∧ w.map.spans ≠ [] := by
  refine ⟨by decide +kernel, by decide +kernel, ?_, by decide +kernel, by decide +kernel⟩
  intro m h; cases h; decide

theorem witness_RollerCountKeepsHeadRange :
    let s := withHead 8388607 (machineIn .wind none)
    let u := withHead (-8388608) (machineIn .stopped none)
    s.geom.head = some 8388607 ∧ 8388607 < (8388607 : Int) + Sense.forward.sign
      ∧ s.seq.transport.isMeasuring = false ∧ s.seq.transport ≠ .unthreaded ∧ s.prot.report = none
      ∧ u.geom.head = some (-8388608) ∧ (-8388608 : Int) + Sense.reverse.sign < -8388608
      ∧ -8388608 ≤ (8388607 : Int) + Sense.reverse.sign ∧ (8388607 : Int) + Sense.reverse.sign ≤ 8388607
      ∧ Due.extStopCatch ∉ s.due ∧ Due.extStopCatch ∉ u.due := by decide +kernel

theorem witness_RollerCountKeepsHeadRange_unread :
    let s := (withHead 8388607 (machineIn .wind none)).capture .extStop .none
    s.prot.unread = true ∧ (s.prot.report.map (fun r => r.cause)) = some .extStop
      ∧ Due.extStopCatch ∉ s.due := by decide +kernel

theorem witness_CountsEnterWindowsAndHistories :
    State.reset.geom.head = none ∧ State.reset.seq.transport.estimating = false
      ∧ ((withHead 8388606 (reading 319 true)).geom.head = some 8388606
        ∧ (8388606 : Int) + Sense.forward.sign ≤ 8388607 ∧ -8388608 ≤ (8388606 : Int) + Sense.forward.sign)
      ∧ ((withHead (-8388607) (machineIn .stopped none)).geom.head = some (-8388607)
        ∧ -8388608 ≤ (-8388607 : Int) + Sense.reverse.sign)
      ∧ (machineIn .wind none).seq.transport.estimating = true
      ∧ mag (((machineIn .wind none).geom.est.get .supply).dn + Turn.winding.sign) ≠ 256
      ∧ Due.extStopCatch ∉ State.reset.due ∧ Due.extStopCatch ∉ (machineIn .wind none).due := by decide +kernel

/-- A takeup reel one winding count before its window closes, the supply reel in a mode of its own. -/
def closing (t : Transport) (mode other : EstMode) (dl : Int) (reject : Nat) : State :=
  let s := machineIn t none
  { s with geom := { s.geom with
      est := ⟨{ reelAt 4716 with mode := other }, { reelAt 4700 with mode := mode, dn := 255, dl := dl, reject := reject }⟩ } }

/-- The window tests at their bounds: ΔL 63 and 64, of the wrong sign, and the sample at both ends of R11's range. -/
theorem witness_ClosedWindowMeasuresFiltersOrRejects :
    let s (dl : Int) := closing (.play .running) .tracking .tracking dl 0
    let e (dl : Int) := (s dl).geom.est.get .takeup
    let valid (dl : Int) := decide (64 ≤ mag dl ∧ dl.sign = Reel.takeup.tapeSign * ((e dl).dn + Turn.winding.sign).sign)
    let plausible (dl : Int) := decide (truncDiv (resetProfile.ch * 7) 8 ≤ 4 * mag dl ∧ 4 * mag dl ≤ 8190)
    ((s 1206).seq.transport.estimating = true ∧ (s 1206).geom.profile .takeup = some resetProfile
        ∧ mag ((e 1206).dn + Turn.winding.sign) = 256 ∧ Reel.supply ≠ Reel.takeup
        ∧ (e 1206).c = some 4700 ∧ (e 1206).mode = .tracking)
      ∧ [63, 64, 392, 393, 2047, 2048, -1206].map (fun dl => (valid dl, plausible dl))
        = [(false, false), (true, false), (true, false), (true, true), (true, true), (true, false), (false, true)]
      ∧ Due.extStopCatch ∉ (s 1206).due := by
  decide +kernel

/-- The reject count at 1 and at 2; an INITIAL reel outside MEASURING, in CREEP and in CREEP_STOP, beside a reel in each mode. -/
theorem witness_ClosedWindowMeasuresFiltersOrRejects_modes :
    let i (t : Transport) (o : EstMode) := closing t .initial o 1206 0
    [1, 2].map (fun k => decide (((closing .wind .tracking .tracking 64 k).geom.est.get .takeup).reject + 1 = 3))
        = [false, true]
      ∧ [i .wind .tracking, i (.measuring .creep) .initial, i (.measuring .creep) .tracking,
          i (.measuring .creepStop) .tracking].map (fun s =>
            (s.seq.transport.estimating, s.seq.transport.isMeasuring, (s.geom.est.get .supply).mode,
              (s.geom.est.get .takeup).mode))
        = [(true, false, .tracking, .initial), (true, true, .initial, .initial), (true, true, .tracking, .initial),
           (true, true, .tracking, .initial)]
      ∧ Due.extStopCatch ∉ (i (.measuring .creep) .tracking).due := by decide +kernel

theorem witness_InertiaInterpolatesBetweenPoints :
    resetProfile.ch + 500 ≤ resetProfile.cf ∧ 1794 < resetProfile.pointPos 0 ∧ resetProfile.pointPos 7 ≤ 5530
      ∧ resetProfile.pointPos 6 ≤ 5529 ∧ 5529 < resetProfile.pointPos 7
      ∧ (State.reset.geom.est.get .supply).c = none
      ∧ (machineIn .stopped none).geom.profile .supply = some resetProfile
      ∧ ((machineIn .stopped none).geom.est.get .supply).c = some 4716 := by decide +kernel

/-- A part at every bound at once: the head at its limit, the return list full, an unread report. -/
def atBounds : State :=
  ((withHead 8388607 (machineIn .wind none)).setReturns (List.replicate 16 ⟨0, none⟩)).capture .range .none

theorem witness_BoundsAndReportStay :
    (∃ t, step { atBounds with pending := [.rollerCount .forward] } = .next t)
      ∧ HeadInRange atBounds.geom ∧ ReturnsBounded atBounds ∧ ReportWellFormed atBounds.prot := by
  refine ⟨⟨_, rfl⟩, ?_, by unfold ReturnsBounded; decide +kernel, ?_⟩
  · intro h hh; cases hh; decide
  · refine ⟨by decide +kernel, ?_⟩
    intro r hr; cases hr; decide

theorem witness_AxisPeriodComputesDriveWord :
    let s := playStart (-40960) .takeup 4716
    s.seq.transport.isForced = false ∧ s.seq.transport ≠ .threading ∧ s.seq.transport ≠ .unthreading
      ∧ s.geom.profile .takeup = some resetProfile ∧ (s.geom.est.get .takeup).c = some 4716
      ∧ (s.tension.axes.get .takeup).released = false
      ∧ Due.extStopCatch ∉ s.due := by decide +kernel

/-- The arm reading alone in a forced state and on a released axis; T at 4 and at 3 in UNTHREADING (the ramp is 3 by default),
and THREADING with the takeup arm out of its band and in it. -/
theorem witness_AxisPeriodComputesDriveWord_forms :
    let u := machineIn .unthreading none
    let a (tension : Int) := { u with tension := { u.tension with
      axes := u.tension.axes.set .takeup { Axis.reset with tension := tension } } }
    let released := { u with tension := { u.tension with axes := u.tension.axes.set .takeup Axis.reset.release } }
    let ramp := paramOf u.ports.params Param.tensionRamp
    State.reset.seq.transport.isForced = true ∧ (released.tension.axes.get .takeup).released = true
      ∧ (a 4).seq.transport = .unthreading ∧ u.seq.transport.isForced = false
      ∧ toward 0 ramp (((a (ramp + 1)).tension.axes.get .takeup).tension) ≠ 0
      ∧ toward 0 ramp (((a ramp).tension.axes.get .takeup).tension) = 0
      ∧ (machineIn .threading none).seq.transport.isForced = false
      ∧ 200 < mag (2249 - armCentre u.ports.params .takeup) ∧ mag (2248 - armCentre u.ports.params .takeup) ≤ 200
      ∧ Due.extStopCatch ∉ (a 4).due ∧ Due.extStopCatch ∉ released.due := by
  decide +kernel

/-- A part in THREADING whose takeup arm stands at the edge of its band. -/
def threadingAt (k : MotionKind) (cancelled : Bool) : State :=
  let s := withMotion k .panel 2 (machineIn .threading none)
  { s with
    seq := { s.seq with creepCancelled := cancelled }
    tension := { s.tension with
      threadingTimer := true, axes := s.tension.axes.set .takeup { Axis.reset with arm := 1848 } } }

theorem witness_ThreadingEndsAtTensionEstablished :
    let s := threadingAt .thread false
    s.seq.transport = .threading ∧ Reel.takeup ≠ Reel.supply
      ∧ mag (((2248 : Fin 4096).val : Int) - armCentre s.ports.params .supply) ≤ 200
      ∧ mag ((s.tension.axes.get .takeup).arm - armCentre s.ports.params .takeup) ≤ 200
      ∧ ((threadingAt .clearFault false).arb.active.map (fun m => m.kind)) = some .clearFault
      ∧ (s.arb.active.map (fun m => m.kind)) = some .thread ∧ s.seq.creepCancelled = false
      ∧ (threadingAt .thread true).seq.creepCancelled = true
      ∧ Due.extStopCatch ∉ s.due := by decide +kernel

theorem witness_SecondReleaseEntersUnthreaded :
    let s := machineIn .unthreading none
    let t := { s with tension := { s.tension with axes := s.tension.axes.set .takeup Axis.reset.release } }
    s.seq.transport = .unthreading ∧ Reel.takeup ≠ Reel.supply ∧ (s.tension.axes.get .supply).released = false
      ∧ mag (s.tension.axes.get .supply).tension ≤ paramOf s.ports.params Param.tensionRamp
      ∧ (s.tension.axes.get .takeup).released = false ∧ (t.tension.axes.get .takeup).released = true
      ∧ Due.extStopCatch ∉ s.due ∧ Due.extStopCatch ∉ t.due := by decide +kernel

theorem witness_CapstanPeriodComputesWhileActive :
    (machineIn .wind none).seq.transport.capstanActive (machineIn .wind none).speed.kind = false
      ∧ (machineIn .halting (some .capstan)).seq.transport.capstanActive (some .capstan) = true
      ∧ Due.extStopCatch ∉ (machineIn .wind none).due ∧ Due.extStopCatch ∉ (machineIn .halting (some .capstan)).due := by decide +kernel

/-- The v_ref and the v_meas that a generator period forms (R44, R46), as the statements about the period spell them. -/
def formed (s : State) : Int × Int :=
  let target := s.speed.nextTarget s.ports.params s.geom s.seq.transport
  let step := if s.seq.transport = .protectStop then roundDiv (paramOf s.ports.params Param.protectDecel) 1000
    else roundDiv (paramOf s.ports.params Param.accelLimit) 1000
  (if mag (target - s.speed.vRef) ≤ step then target
    else if s.speed.vRef < target then s.speed.vRef + step else s.speed.vRef - step,
   truncDiv ((s.speed.roller.periods.drop 1 ++ [s.speed.roller.running]).sum * 125) 2)

/-- R48: a stopping point not yet reported is reached in the period. -/
def completes (s : State) : Bool :=
  s.speed.stopPoint.any (fun point =>
    let r := point - s.geom.head.getD 0
    !s.speed.pointReported && decide ((formed s).1 = 0) && decide (if s.speed.mode = .reel then mag r ≤ 2 else r ≤ 2))

/-- R52: rest not yet reported is reached in the period. -/
def comesToRest (s : State) : Bool :=
  decide (s.speed.mode = .deceleration) && !s.speed.restReported && decide ((formed s).1 = 0)
    && decide (mag (formed s).2 ≤ 62)

/-- A locate slowing from 25 past a stopping point, at length 0. -/
def pastPoint (t : Transport) (vRef point : Int) (reported : Bool) : State :=
  let s := machineIn t none
  { s with speed := { s.speed with vRef := vRef, stopPoint := some point, pointReported := reported } }

/-- A part in a deceleration of kind AT_REST with net roller counts in its last period. -/
def creeping (n : Int) (reported : Bool) : State :=
  let s := machineIn .halting (some .atRest)
  { s with speed := { s.speed with roller := { s.speed.roller with running := n }, restReported := reported } }

/-- R48's bound of 2 counts in both modes, R52's of one count, a report already made, and motions with neither test. -/
theorem witness_GeneratorPeriodStepsReference :
    let s0 := machineIn .wind none
    let s := { s0 with speed := { s0.speed with requested := 50000 } }
    let travel := Transport.locate .travel
    let approach := Transport.locate .approach
    [s, pastPoint travel 25 (-3) false, pastPoint travel 25 (-2) true, pastPoint approach (-25) 3 false,
        creeping 2 false, creeping 1 true].all (fun s =>
      !completes s && !comesToRest s && !s.due.contains .extStopCatch) = true
      ∧ [pastPoint travel 25 (-2) false, pastPoint approach 25 (-3) false, pastPoint approach (-25) 2 false].all completes
        = true
      ∧ comesToRest (creeping 1 false) = true
      ∧ ((formed (creeping 2 false)).2 = 125 ∧ (formed (creeping 1 false)).2 = 62) := by decide +kernel

/-- Both reels measured at 4,716, and the bound of R18 to R20 and R47 there, with no reel near its end. -/
theorem witness_GeneratorTargetByModeAndPoint :
    let ps := State.reset.ports.params
    let g := (withHead 1000 (machineIn .wind none)).geom
    let v (mode : GenMode) (vRef point : Int) : Speed :=
      { Speed.reset with mode := mode, vRef := vRef, stopPoint := some point, pointFresh := true }
    let s (vRef : Int) := truncDiv (vRef * vRef) (2 * paramOf ps Param.accelLimit) + truncDiv (mag vRef) 1000
    (g.profile .supply = some resetProfile ∧ g.profile .takeup = some resetProfile
        ∧ (g.est.get .supply).c = some 4716 ∧ (g.est.get .takeup).c = some 4716 ∧ g.head = some 1000)
      ∧ Speed.reset.stopPoint = none ∧ (v .reel 1000 1020).stopPoint = some 1020
      ∧ (v .reel 0 1002).pointFresh = true ∧ Speed.reset.pointFresh = false
      ∧ ((-25 : Int) ≠ 0 ∧ (-25 : Int).sign = -((1020 : Int) - 1000).sign)
      ∧ mag ((1020 : Int) - 1000) ≤ s 1000
      ∧ (s 900 < mag ((1020 : Int) - 1000) ∧ ¬((900 : Int) ≠ 0 ∧ (900 : Int).sign = -((1020 : Int) - 1000).sign))
      ∧ (mag ((1002 : Int) - 1000) ≤ 2 ∧ s 0 < mag ((1002 : Int) - 1000) ∧ s 0 < mag ((1003 : Int) - 1000)
        ∧ ¬ mag ((1003 : Int) - 1000) ≤ 2)
      ∧ ((998 : Int) - 1000 ≤ 2 ∧ (1002 : Int) - 1000 ≤ 2 ∧ ¬ (1003 : Int) - 1000 ≤ 2) := by decide +kernel

/-- A part at rest in a deceleration of kind AT_REST with a rest destination. -/
def resting (t : Transport) (dest : Option RestDest) : State :=
  let s := machineIn t (some .atRest)
  { s with seq := { s.seq with restDest := dest } }

/-- The hypotheses that every clause of RestReachedEntersDestination shares. -/
def atRest (s : State) : Bool :=
  comesToRest s && s.speed.stopPoint.isNone && decide (s.arb.chase ≠ .waiting)
    && decide (s.arb.slot = none) && !s.due.contains .extStopCatch

theorem witness_RestReachedEntersDestination :
    atRest (resting (.play .braking) none) = true
      ∧ atRest (resting (.measuring .creepStop) (some .settling)) = true
      ∧ atRest (resting (.measuring .creepStop) (some .unthreading)) = true
      ∧ atRest (resting .halting (some .stopped)) = true ∧ atRest (resting .halting (some .unthreading)) = true
      ∧ (atRest (withMotion .stop .chase 1 ((resting .halting (some .chaseParked)).setChase .starting)) = true
        ∧ (withMotion .stop .chase 1 (resting .halting (some .chaseParked))).arb.active
            = some { kind := .stop, source := .chase, level := 1 })
      ∧ atRest (resting .protectStop none) = true
      ∧ atRest ((resting (.chase .releasing) none).setChase .releasing) = true
      ∧ (atRest (creeping 1 false) = true ∧ atRest (creeping 2 false) = false ∧ atRest (creeping 0 true) = false) := by
  decide +kernel

/-- A locate to address 10,500, at length 120,000, or to that length, whose given stopping point the head has reached. -/
def arrived (t : Transport) (target : LocateTarget) (retries : Nat) (head : Int) : State :=
  let s := withMotion .locate .panel 2 (withSpans [spanOf 0 100000 140000 10000] (withHead head (machineIn t none)))
  (s.setLocate (s.recompute { LocateRecord.fresh target 3 with retries := retries })).headToward true head

/-- Each clause of a stopping point reached: APPROACH, then TRAVEL and REPOSITION with the recomputed point at the bound h - 2
and behind it at the retry limit and below, then a locate to a length. -/
theorem witness_StoppingPointReachedMovesLocateOn :
    let a := LocateTarget.address 10500
    [arrived (.locate .approach) a 0 120000, arrived (.chase (.locating .approach)) a 0 120000,
        arrived (.locate .travel) a 3 120002, arrived (.locate .reposition) a 3 120003,
        arrived (.chase (.locating .travel)) a 2 120003, arrived (.locate .travel) (.length 120000) 0 120000].all (fun s =>
      completes s && s.locate.active.isSome && s.geom.head.isSome && decide (s.arb.chase ≠ .waiting)
        && decide (s.arb.slot = none) && !s.due.contains .extStopCatch) = true
      ∧ [(120002, 3), (120003, 3), (120003, 2)].map (fun c : Int × Nat =>
          let s := arrived (.locate .travel) a c.2 c.1
          s.locate.active.map (fun r =>
            (decide (s.geom.head = some c.1), a.verifying, decide (c.1 - 2 ≤ r.stopPoint), decide (r.retries = r.limit))))
        = [some (true, true, true, true), some (true, true, false, true), some (true, true, false, false)]
      ∧ (LocateTarget.length 120000).verifying = false
      ∧ [pastPoint (.locate .approach) 25 (-2) false, arrived .wind a 0 120000, arrived (.locate .verify) a 0 120000].map
          (fun s => (completes s, s.locate.active.isSome, s.seq.transport.locatePhase))
        = [(true, false, some .approach), (true, true, none), (true, true, some .verify)] := by decide +kernel

theorem witness_EventsWithoutCauseChangeNothing :
    Due.tapeOut ∉ State.reset.due ∧ State.reset.tension.threadingTimer = false
      ∧ State.reset.geom.measuringTimer = false ∧ State.reset.seq.settleTimer = none
      ∧ State.reset.seq.engageTimer = false ∧ State.reset.locate.verifyTimer = false
      ∧ Due.extStopCatch ∉ State.reset.due := by decide

/-- A wind over which conditions have been raised. -/
def raisedIn (t : Transport) (kind : Option DecelKind) (ds : List Due) : State :=
  { machineIn t kind with due := ds }

theorem witness_FaultCauseEntersFaulted :
    let s := raisedIn .wind none [.low .supply, .saturation .takeup, .capstanSaturation, .tapeOut]
    (∀ d ∈ [Due.low .supply, .saturation .takeup, .capstanSaturation, .tapeOut], d ∈ s.due)
      ∧ s.seq.transport ≠ .unthreaded ∧ s.seq.transport ≠ .faulted ∧ s.prot.unread = false
      ∧ (Due.saturation .takeup, Cause.driveSaturated, CauseAxis.takeup) ∈ [(Due.low .takeup, Cause.tensionLoss, .takeup),
          (.saturation .takeup, .driveSaturated, .takeup), (.capstanSaturation, .driveSaturated, .capstan),
          (.tapeOut, .tapeOut, .none)]
      ∧ Due.extStopCatch ∉ s.due := by decide +kernel

theorem witness_StopCauseEntersProtectStop :
    let s := raisedIn .wind none [.reject .supply, .high .takeup, .overspeed .supply, .extStopCatch]
    let c := (raisedIn (.chase .rolling) none [.extStopCatch]).setChase .granted
    (∀ d ∈ [Due.reject .supply, .high .takeup, .overspeed .supply, .extStopCatch], d ∈ s.due)
      ∧ s.seq.transport.counting = true ∧ s.seq.transport ≠ .protectStop
      ∧ Due.extStopCatch ∈ c.due ∧ c.seq.transport.isChase = true ∧ c.seq.transport.counting = true
      ∧ (raisedIn .threading none [.overspeed .supply]).seq.transport = .threading
      ∧ (raisedIn .faulted none [.overspeed .supply]).seq.transport = .faulted
      ∧ ({ State.reset with due := [.extStopCatch] }).seq.transport = .unthreaded
      ∧ (Due.high .takeup, Cause.overTension, CauseAxis.takeup) ∈ [(Due.reject .takeup, Cause.geometry, .takeup),
          (.high .takeup, .overTension, .takeup), (.overspeed .takeup, .reelOverspeed, .takeup),
          (.extStopCatch, .extStop, .none)]
      ∧ s.prot.unread = false ∧ (s.capture .range .none).prot.unread = true
      ∧ ((s.capture .range .none).prot.report.map (fun r => r.later)) = some []
      ∧ Due.extStopCatch ∉ (raisedIn .wind none [.reject .supply, .high .takeup, .overspeed .supply]).due
      ∧ Due.extStopCatch ∉ (raisedIn .faulted none [.overspeed .supply]).due := by decide +kernel

theorem witness_CaptureKeepsFirstUnreadCause :
    State.reset.prot.report = none
      ∧ (((machineIn .wind none).capture .range .none).prot.report.map (fun r => r.cause)) = some .range
      ∧ ((machineIn .wind none).capture .range .none).prot.unread = true := by decide +kernel

theorem witness_OutputsFollowTransport :
    ∃ t, step { machineIn (.play .running) none with pending := [.engageTimerExpiry] } = .next t
      ∧ OutputsFollow { machineIn (.play .running) none with pending := [.engageTimerExpiry] } :=
  ⟨_, rfl, by unfold OutputsFollow; decide +kernel⟩

/-- PLAY in ENGAGE with its timer running. -/
def engaging : State :=
  let s := machineIn (.play .engage) none
  { s with seq := { s.seq with engageTimer := true } }

theorem witness_TimersFollowTransport :
    ∃ t, step { engaging with pending := [.engageTimerExpiry] } = .next t
      ∧ TimersFollow { engaging with pending := [.engageTimerExpiry] } :=
  ⟨_, rfl, by unfold TimersFollow; decide +kernel⟩

theorem reset_params_in_range : ParamsInRange State.reset.ports.params := by
  refine ⟨by decide +kernel, ?_, by decide +kernel, by decide +kernel⟩
  have h : ∀ n < 38, ∀ row, paramRows[n]? = some row →
      row.lo ≤ paramOf State.reset.ports.params n ∧ paramOf State.reset.ports.params n ≤ row.hi := by
    have k : ((List.range 38).all fun n =>
        match paramRows[n]? with
        | some row => decide (row.lo ≤ paramOf State.reset.ports.params n ∧ paramOf State.reset.ports.params n ≤ row.hi)
        | none => true) = true := by decide +kernel
    intro n hn row hr
    have := List.all_eq_true.mp k n (List.mem_range.mpr hn)
    simpa [hr] using this
  intro n row hr
  exact h n (by have := (List.getElem?_eq_some_iff.mp hr).1; exact this) row hr

theorem witness_DrivesStayLimitedAndForced :
    (∃ t, step { State.reset with pending := [.axisServoPeriod .supply 4095] } = .next t)
      ∧ ParamsInRange State.reset.ports.params ∧ DriveWordsWithin State.reset ∧ ForcedAtRest State.reset := by
  refine ⟨⟨_, rfl⟩, reset_params_in_range, ⟨fun r => ?_, by decide +kernel⟩, fun _ => ⟨fun r => ?_, ?_⟩⟩
  · cases r <;> decide +kernel
  · cases r <;> decide +kernel
  · decide +kernel

theorem witness_TimerExpiriesAct :
    let th := threadingAt .thread false
    let me0 := machineIn (.measuring .creep) none
    let me := { me0 with geom := { me0.geom with
      measuringTimer := true, est := ⟨reelAt 4716, { reelAt 4716 with mode := .initial }⟩ } }
    let se0 := machineIn .settling none
    let se := { se0 with seq := { se0.seq with settleTimer := some 250 } }
    (th.tension.threadingTimer = true ∧ th.seq.transport = .threading ∧ th.prot.unread = false
        ∧ 200 < mag (th.tension.axes.supply.arm - armCentre th.ports.params .supply))
      ∧ (me.geom.measuringTimer = true ∧ me.seq.transport.isMeasuring = true ∧ me.prot.unread = false
        ∧ me.geom.est.takeup.mode = .initial)
      ∧ (se.seq.settleTimer = some 250 ∧ se.seq.transport = .settling ∧ se.arb.chase ≠ .waiting ∧ se.arb.slot = none)
      ∧ engaging.seq.engageTimer = true ∧ engaging.seq.transport = .play .engage
      ∧ (Due.extStopCatch ∉ th.due ∧ Due.extStopCatch ∉ me.due ∧ Due.extStopCatch ∉ se.due ∧ Due.extStopCatch ∉ engaging.due) := by decide +kernel

/-- The end of SETTLING with a chase waiting or not and a request in the slot. -/
def settled (chase : ChaseState) (slot : Option Held) : State :=
  let s := (machineIn .settling none).setChase chase
  ({ s with seq := { s.seq with settleTimer := some 250 } }).setSlot slot

/-- Default levels: panel 2, studio 1, chase 1, lockout 0; lockout 2 shuts out the chase and the studio. -/
theorem witness_StoppedEntryGrantsThenJudges :
    let w := settled .waiting none
    let level (lockout : Int) (s : State) := (withParam Param.lockoutLevel lockout s)
    (w.seq.settleTimer.isSome = true ∧ w.seq.transport = .settling ∧ w.arb.chase ≠ .releasing ∧ w.locate.active = none)
      ∧ [level 0 w, level 2 w].map (fun s => (s.param Param.lockoutLevel, s.param Param.chaseLevel, s.portLevel .panel,
          s.portLevel .studio)) = [(0, 1, 2, 1), (2, 1, 2, 1)]
      ∧ [MotionReq.play, .wind 1, .shuttle (-1), .stop].map (fun r => (settled .idle (some ⟨r, .studio, none⟩)).arb.slot)
          = [MotionReq.play, .wind 1, .shuttle (-1), .stop].map (fun r => some ⟨r, .studio, none⟩)
      ∧ (settled .idle (some ⟨.returnBack, .panel, some ⟨5, none⟩⟩)).arb.slot = some ⟨.returnBack, .panel, some ⟨5, none⟩⟩
      ∧ (withParam Param.panelLevel 1 (settled .waiting (some ⟨.wind 1, .panel, none⟩))).portLevel .panel
          = w.param Param.chaseLevel
      ∧ (settled .waiting (some ⟨.wind 1, .studio, none⟩)).arb.chase = .waiting
      ∧ Due.extStopCatch ∉ w.due := by decide +kernel

/-- The same at a retry count. -/
def verifyingAfter (retries : Nat) (n : Newest) : State :=
  let s := verifying (some n) .inMap
  { s with locate := { s.locate with active := s.locate.active.map (fun r => { r with retries := retries }) } }

theorem witness_VerifyTimerEvaluatesAtRest :
    let s := verifying (some ⟨12494, 219858, 41000⟩) .inMap
    let n := verifying none .notInMap
    s.locate.verifyTimer = true ∧ s.seq.transport = .locate .verify ∧ s.geom.head = some 219897
      ∧ s.arb.chase ≠ .waiting ∧ s.arb.slot = none ∧ mag s.speed.vMeas ≤ 62
      ∧ 62 < mag ({ s with speed := { s.speed with vMeas := 63 } }).speed.vMeas
      ∧ mag ((12500 : Int) - (12494 + roundDiv ((219897 - -200 - 219858) * 1024) 41000))
          ≤ paramOf s.ports.params Param.locateWindow
      ∧ (n.locate.active.map (fun r => (r.newest, r.targetState))) = some (none, some .notInMap)
      ∧ ((verifying none .inMap).locate.active.map (fun r => (r.newest, r.targetState)))
          = some (none, some .inMap)
      ∧ Due.extStopCatch ∉ s.due ∧ Due.extStopCatch ∉ n.due := by decide +kernel

/-- A miss at the retry limit and below; the mark is gone, so the recomputed point stays 219,898, and the head at 219,897 lies
in its approach, with v_ref 0 and negative. -/
theorem witness_VerifyTimerEvaluatesAtRest_miss :
    let m (k : Nat) := verifyingAfter k ⟨12491, 219858, 41000⟩
    let window := paramOf (m 0).ports.params Param.locateWindow
    let back := { m 0 with speed := { (m 0).speed with vRef := -1 } }
    (window < mag ((12500 : Int) - (12491 + roundDiv ((219897 - -200 - 219858) * 1024) 41000)))
      ∧ [0, 3].map (fun k => (m k).locate.active.map (fun r => (decide (r.retries = r.limit), r.target.verifying)))
          = [some (false, true), some (true, true)]
      ∧ ((m 0).locate.active.map (fun r => ((m 0).recompute r).stopPoint)) = some 219898
      ∧ (219898 : Int) - paramOf (m 0).ports.params Param.approachDistance ≤ 219897 ∧ (219897 : Int) ≤ 219898
      ∧ 0 ≤ (m 0).speed.vRef ∧ back.speed.vRef < 0
      ∧ Due.extStopCatch ∉ (m 0).due := by decide +kernel

/-- The same in CHASE LOCATING VERIFY, a record in force. -/
theorem witness_VerifyTimerEvaluatesAtRest_chase :
    let s := withMotion .chase .chase 1 { verifying (some ⟨12494, 219858, 41000⟩) .inMap with
      seq := (machineIn (.chase (.locating .verify)) none).seq }
    s.seq.transport = .chase (.locating .verify) ∧ s.locate.verifyTimer = true ∧ s.locate.active.isSome = true
      ∧ s.geom.head = some 219897 ∧ mag s.speed.vMeas ≤ 62
      ∧ s.arb.active = some { kind := .chase, source := .chase, level := 1 }
      ∧ Due.extStopCatch ∉ s.due := by decide +kernel

theorem witness_LeaderAndExternalStopLineAct :
    let s := machineIn .wind none
    let f (v : Int) := { s with speed := { s.speed with vMeas := v } }
    s.seq.leaderSeen = .tape ∧ s.seq.transport.watchesLeader = true ∧ s.seq.transport.counting = true
      ∧ mag (f 5000).speed.vMeas ≤ paramOf s.ports.params Param.endSpeed
      ∧ paramOf s.ports.params Param.endSpeed < mag (f (-5001)).speed.vMeas
      ∧ (machineIn .settling none).seq.transport.watchesLeader = false
      ∧ Due.extStopCatch ∉ s.due ∧ Due.extStopCatch ∉ (machineIn .settling none).due := by decide +kernel

theorem witness_LeaderAndExternalStopLineAct_line :
    (machineIn .wind none).prot.extStop = false ∧ (machineIn .wind none).seq.transport.counting = true
      ∧ (machineIn .wind none).prot.unread = false ∧ State.reset.seq.transport = .unthreaded
      ∧ ((machineIn .wind none).setExtStop true).prot.extStop = true
      ∧ Due.extStopCatch ∉ (machineIn .wind none).due ∧ Due.extStopCatch ∉ State.reset.due := by decide +kernel

theorem witness_ChaseGrantedAtRestAndInMotion :
    let s := machineIn .stopped none
    let l := withParam Param.lockoutLevel 2 s
    s.arb.chaseLine = false ∧ s.arb.chase = .idle ∧ s.seq.transport = .stopped ∧ s.arb.active = none
      ∧ s.locate.active = none
      ∧ paramOf s.ports.params Param.lockoutLevel ≤ paramOf s.ports.params Param.chaseLevel
      ∧ paramOf l.ports.params Param.chaseLevel < paramOf l.ports.params Param.lockoutLevel
      ∧ (s.setChaseLine true).arb.chaseLine = true ∧ (s.setChase .releasing).arb.chase = .releasing
      ∧ Due.extStopCatch ∉ s.due := by decide +kernel

/-- Motions below the chase level (1 by default), in PLAY RUNNING and elsewhere, of a port and of a chase, with a locate and
without; at the chase level, of kind UNTHREAD, and in a state that is never preempted. -/
theorem witness_ChaseGrantedAtRestAndInMotion_moving :
    let p := withMotion .play .studio 0 (machineIn (.play .running) none)
    let h := withMotion .stop .chase 0 (machineIn .halting (some .reel))
    let r := withMotion .locate .panel 0 (locating (.locate .travel))
    paramOf p.ports.params Param.chaseLevel = 1 ∧ paramOf p.ports.params Param.lockoutLevel ≤ 1
      ∧ [p, h, r, withMotion .wind .panel 0 (machineIn .wind none)].all (fun s =>
          !s.arb.chaseLine && s.arb.chase == .idle && s.seq.transport.chaseMayPreempt
            && s.arb.active.any (fun m => m.kind != .unthread && decide (m.level < 1))) = true
      ∧ r.seq.transport = .locate .travel ∧ r.locate.active.isSome = true
      ∧ (h.arb.active.map (fun m => m.source)) = some .chase
      ∧ ((withMotion .wind .panel 1 (machineIn .wind none)).arb.active.map (fun m => m.level)) = some 1
      ∧ ((withMotion .unthread .panel 0 (machineIn .halting none)).arb.active.map (fun m => m.kind)) = some .unthread
      ∧ (machineIn .settling none).seq.transport = .settling
      ∧ Due.extStopCatch ∉ p.due ∧ Due.extStopCatch ∉ h.due ∧ Due.extStopCatch ∉ r.due := by decide +kernel

/-- A waiting chase and a change of a level: the ends of the level rows, the chase level raised past the motion's and past an
UNTHREAD's, and the lockout level raised past the chase level. -/
theorem witness_ChaseGrantedAtRestAndInMotion_levels :
    let w := (withMotion .wind .panel 1 (machineIn .wind none)).setChase .waiting
    let u := (withMotion .unthread .panel 1 (machineIn .halting (some .reel))).setChase .waiting
    let level (n : Nat) (v : Int) (k : Nat) := paramOf (w.ports.params.set n v) k
    ((paramRows[27]?).map (fun r => (r.lo, r.hi))) = some (0, 2) ∧ ((paramRows[30]?).map (fun r => (r.lo, r.hi))) = some (0, 3)
      ∧ w.arb.chase = .waiting ∧ u.arb.chase = .waiting ∧ w.seq.transport = .wind ∧ u.seq.transport = .halting
      ∧ (level 29 2 Param.lockoutLevel ≤ level 29 2 Param.chaseLevel ∧ (1 : Int) < level 29 2 Param.chaseLevel)
      ∧ level 27 2 Param.chaseLevel ≤ 1 ∧ level 30 2 Param.chaseLevel < level 30 2 Param.lockoutLevel
      ∧ (u.arb.active.map (fun m => m.kind)) = some .unthread := by decide +kernel

theorem witness_ChaseReleasedAndDrivenByStudio :
    let s := (machineIn (.chase .parked) none).setChaseLine true
    let h := ((machineIn .halting (some .reel)).setChaseLine true).setChase .starting
    State.reset.arb.chaseLine = false ∧ s.arb.chaseLine = true
      ∧ (s.setChase .waiting).arb.chase = .waiting ∧ (s.setChase .spent).arb.chase = .spent
      ∧ (h.arb.chaseLine = true ∧ h.arb.chase = .starting ∧ h.seq.transport = .halting)
      ∧ ((s.setChase .granted).arb.chase = .granted ∧ s.seq.transport.isChase = true)
      ∧ (locating (.chase (.locating .travel))).locate.active.isSome = true
      ∧ Due.extStopCatch ∉ s.due ∧ Due.extStopCatch ∉ h.due := by decide +kernel

/-- Releases from each phase, at v_ref 0 and not: every state has the outputs and the mode of its row. -/
theorem witness_ChaseReleasedAndDrivenByStudio_kinds :
    ∀ p ∈ [ChasePhase.parked, .rolling, .locating .travel, .locating .approach, .locating .verify, .locating .reposition],
      let s := ((machineIn (.chase p) none).setChaseLine true).setChase .granted
      let m := { s with speed := { s.speed with vRef := 300 } }
      OutputsFollow s ∧ OutputsFollow m ∧ s.speed.vRef = 0 ∧ m.speed.vRef ≠ 0 ∧ s.seq.transport ≠ .chase .releasing
        ∧ Due.extStopCatch ∉ s.due := by
  unfold OutputsFollow; decide +kernel

/-- The studio's clauses: its level passes the lockout, and in PARKED v_ref 0, the capstan target 3,810 itself, one above it and
one below 0; the chase ratio at and beyond the ends of its range. -/
theorem witness_ChaseReleasedAndDrivenByStudio_studio :
    let s := machineIn (.chase .parked) none
    let v (x : Int) : Prop :=
      x < 0 ∨ roundDiv (paramOf s.ports.params Param.playSpeed * s.speed.chaseRatio) 4096 < x
    paramOf s.ports.params Param.lockoutLevel ≤ s.portLevel .studio ∧ s.speed.vRef = 0
      ∧ ¬ v 0 ∧ ¬ v 3810 ∧ v 3811 ∧ v (-1)
      ∧ ((3584 : Int) ≤ 4608 ∧ ¬ (3584 : Int) ≤ 3583 ∧ ¬ (4609 : Int) ≤ 4608)
      ∧ (machineIn .stopped none).seq.transport.isChase = false
      ∧ ((machineIn .halting (some .reel)).setChase .starting).arb.chase = .starting
      ∧ (approaching (.chase (.locating .approach)) 0 120000).locate.active.isSome = true := by
  refine ⟨by decide +kernel, by decide +kernel, ?_, ?_, ?_, ?_, by decide, by decide +kernel, by decide +kernel,
    by decide +kernel⟩ <;> decide +kernel

theorem witness_MotionRefusedOutsideItsStates :
    let s := withParam Param.lockoutLevel 3 (machineIn .stopped none)
    (machineIn .protectStop (some .reel)).seq.transport = .protectStop
      ∧ (machineIn .unthreading none).seq.transport = .unthreading
      ∧ ((machineIn .faulted none).seq.transport = .faulted ∧ MotionReq.play ≠ .clearFault)
      ∧ (s.operandTest .play = none ∧ MotionReq.play.validIn s.seq.transport = true ∧ s.seq.transport.isChase = false
        ∧ s.portLevel .panel < paramOf s.ports.params Param.lockoutLevel
        ∧ ¬(Port.panel = .panel ∧ (MotionReq.play = .stop ∨ MotionReq.play = .unthread))) := by decide +kernel

/-- One state outside those of each kind of request, with its operand test passed. -/
theorem witness_MotionRefusedOutsideItsStates_state :
    let s := machineIn .stopped none
    let m := machineIn (.measuring .creep) none
    (s.operandTest (.thread 0 0) = none ∧ s.operandTest .clearFault = none ∧ s.operandTest (.chaseSpeed 4096) = none)
      ∧ (s.seq.transport ≠ .unthreaded ∧ s.seq.transport ≠ .faulted ∧ s.seq.transport.isChase = false)
      ∧ (State.reset.operandTest .stop = none ∧ State.reset.operandTest .unthread = none
        ∧ State.reset.seq.transport = .unthreaded)
      ∧ (m.operandTest .play = none ∧ m.operandTest (.wind 1) = none ∧ m.operandTest (.shuttle 1) = none
        ∧ m.operandTest (.locateAddress 0) = none ∧ m.operandTest (.locateLength 0) = none
        ∧ m.operandTest .returnBack = none ∧ m.seq.transport.isMeasuring = true)
      ∧ marked.operandTest (.locateMark 127) = none := by decide +kernel

theorem witness_ThreadClearFaultAndUnthreadAct :
    let s := State.reset.setGeom (State.reset.geom.setSlot 3 resetProfile)
    s.seq.transport = .unthreaded ∧ s.geom.profiles[0]? = some (some resetProfile)
      ∧ s.geom.profiles[3]? = some (some resetProfile)
      ∧ paramOf s.ports.params Param.lockoutLevel ≤ paramOf s.ports.params Param.panelLevel
      ∧ s.tapePath = .opened ∧ (s.readSwitch .closed).tapePath = .closed := by decide +kernel

/-- A fault with the switch closed and open, the head defined and absent. -/
theorem witness_ThreadClearFaultAndUnthreadAct_fault :
    let f := machineIn .faulted none
    f.seq.transport = .faulted ∧ paramOf f.ports.params Param.lockoutLevel ≤ paramOf f.ports.params Param.panelLevel
      ∧ f.tapePath = .closed ∧ f.geom.head ≠ none ∧ (f.readSwitch .opened).tapePath = .opened
      ∧ ({ f with geom := { f.geom with head := none } }).geom.head = none := by decide +kernel

/-- An UNTHREAD at rest with and without a held request, in MEASURING, against a motion at its level and below, in a halt, and
in a chase parked at rest and in motion. -/
theorem witness_ThreadClearFaultAndUnthreadAct_unthread :
    let c (v : Int) (p : ChasePhase) :=
      let s := withMotion .chase .chase 1 ((machineIn (.chase p) none).setChase .granted)
      { s with speed := { s.speed with vRef := v } }
    ((machineIn .settling none).setSlot (some ⟨.play, .studio, none⟩)).arb.slot = some ⟨.play, .studio, none⟩
      ∧ (machineIn .stopped none).arb.slot = none ∧ (machineIn (.measuring .creep) none).seq.transport.isMeasuring = true
      ∧ (machineIn .wind none).seq.transport.watchesLeader = true
      ∧ (Source.studio ≠ .panel ∧ State.reset.portLevel .panel = 2)
      ∧ (machineIn .halting (some .reel)).arb.chase ≠ .starting
      ∧ [c 0 .parked, c 1 .parked, c 0 .rolling].map (fun s => (s.arb.active.map (fun m => m.level), s.speed.vRef))
          = [(some 1, 0), (some 1, 1), (some 1, 0)]
      ∧ (c 0 .parked).arb.chase ≠ .waiting ∧ (1 : Int) < (c 0 .parked).portLevel .panel := by decide +kernel

theorem witness_MotionJudgedAgainstMotionOrChase :
    let s := withMotion .play .panel 1 (machineIn (.play .running) none)
    s.seq.transport.watchesLeader = true ∧ s.arb.chase ≠ .waiting
      ∧ paramOf s.ports.params Param.lockoutLevel ≤ s.portLevel .studio
      ∧ (Source.panel ≠ Port.studio.source ∧ s.portLevel .studio ≤ 1)
      ∧ Source.panel = Port.panel.source
      ∧ (Source.panel ≠ Port.studio.source ∧ (0 : Int) < s.portLevel .studio) := by decide +kernel

/-- A panel request in a chase and in the halt of a STARTING one: the panel level (2 by default) at the record's level and above
it, with a request in the slot and a locate in force. -/
theorem witness_MotionJudgedAgainstMotionOrChase_chase :
    let c (level : Int) := withMotion .chase .chase level ((machineIn (.chase .rolling) none).setChase .granted)
    let h (level : Int) := withMotion .stop .chase level ((machineIn .halting (some .reel)).setChase .starting)
    (c 2).portLevel .panel = 2 ∧ paramOf (c 2).ports.params Param.lockoutLevel ≤ 2
      ∧ [c 2, c 1, h 2, h 1].all (fun s => decide (s.arb.chase ≠ .waiting)
          && (s.seq.transport.isChase || decide (s.seq.transport = .halting ∧ s.arb.chase = .starting))) = true
      ∧ [c 2, c 1, h 2, h 1].map (fun s => s.arb.active.map (fun m => m.level)) = [some 2, some 1, some 2, some 1]
      ∧ ((c 2).setSlot (some ⟨.play, .panel, none⟩)).arb.slot = some ⟨.play, .panel, none⟩
      ∧ (locating (.chase (.locating .travel))).locate.active.isSome = true := by decide +kernel

/-- A replacement with a chase WAITING, the panel below the chase level (1) and at it; and the driven states of the breaks. -/
theorem witness_MotionJudgedAgainstMotionOrChase_waiting :
    let w (level : Int) := (withParam Param.panelLevel level
      (withMotion .play .panel 1 (machineIn (.play .running) none))).setChase .waiting
    [w 0, w 1].map (fun s => (decide (s.arb.chase = .waiting), s.portLevel .panel, s.param Param.chaseLevel,
        s.param Param.lockoutLevel)) = [(true, 0, 1, 0), (true, 1, 1, 0)]
      ∧ (w 0).seq.transport.watchesLeader = true
      ∧ (machineIn (.chase .releasing) (some .capstan)).speed.kind = some .capstan
      ∧ (machineIn (.chase .releasing) (some .reel)).speed.kind ≠ some .capstan := by decide +kernel

/-- Starts from STOPPED and over motions, driven and not; the head at the approach point of address 10,500 and one before it. -/
theorem witness_MotionsStartInTheirFirstPhase :
    let a := withMotion .locate .panel 2 (machineIn (.locate .approach) none)
    let s (head : Int) := withSpans [spanOf 0 100000 140000 10000] (withHead head (machineIn .stopped none))
    let r (head : Int) := (s head).recompute (.fresh (.address 10500) 3)
    (a.arb.chase ≠ .waiting ∧ a.param Param.lockoutLevel ≤ a.portLevel .panel
        ∧ a.arb.active = some { kind := .locate, source := .panel, level := 2 } ∧ a.seq.transport = .locate .approach)
      ∧ (machineIn (.play .braking) (some .capstan)).speed.kind = some .capstan
      ∧ (machineIn (.play .running) none).seq.transport = .play .running
      ∧ (s 0).seq.transport = .stopped ∧ (s 0).speed.vRef = 0
      ∧ markAt marked.marks 127 ≠ none ∧ markAt marked.marks 1 = none ∧ State.reset.map.spans = []
      ∧ [120000 - 7620, 120000 - 7621, 120000, 120001].map (fun h => ((r h).stopPoint,
          decide ((r h).stopPoint - (s h).param Param.approachDistance ≤ h ∧ h ≤ (r h).stopPoint)))
        = [(120000, true), (120000, false), (120000, true), (120000, false)] := by decide +kernel

/-- A mark AMBIGUOUS between two spans, with every mark resolved; and the external stop line asserted in both of its modes. -/
theorem witness_MotionsStartInTheirFirstPhase_marks :
    let c := marked.setExtStop true
    MarksResolved marked ∧ ((markAt marked.marks 127).map (fun m => m.resolution)) = some (.ambiguous [0, 1])
      ∧ (c.prot.extStop = true ∧ [0, 1].map (fun v => paramOf (withParam Param.extStopMode v c).ports.params Param.extStopMode)
        = [0, 1])
      ∧ ((takeTwice.filter (fun p => p.hasAddress 1800)).length = 2 ∧ (takeTwice.filter (fun p => p.hasAddress 1200)).length = 1
        ∧ takeTwice.filter (fun p => p.hasAddress 2300) = [] ∧ (nearestSpan takeTwice 2300).isSome = true) := by
  unfold MarksResolved; decide +kernel

theorem witness_StopHaltsAMovingTransport :
    let s := withMotion .play .panel 2 (machineIn (.play .running) none)
    paramOf s.ports.params Param.lockoutLevel ≤ s.portLevel .panel ∧ s.seq.transport.watchesLeader = true
      ∧ s.arb.active = some { kind := .play, source := .panel, level := 2 } ∧ Source.panel = Port.panel.source
      ∧ s.arb.chase ≠ .waiting
      ∧ (machineIn .stopped none).seq.transport = .stopped
      ∧ ((machineIn .halting (some .reel)).setChase .starting).seq.transport = .halting := by decide +kernel

theorem witness_SettlingHoldsNewestRequest :
    let s := machineIn .settling none
    s.seq.transport = .settling ∧ paramOf s.ports.params Param.lockoutLevel ≤ s.portLevel .studio
      ∧ s.arb.slot = none ∧ (s.setSlot (some ⟨.play, .panel, none⟩)).arb.slot = some ⟨.play, .panel, none⟩
      ∧ (-8388608 : Int) ≤ -8388608 ∧ (8388607 : Int) ≤ 8388607 := by decide +kernel

theorem witness_ReturnListPushesAndPops :
    let s := withHead 250400 (machineIn .stopped none)
    let f := s.setReturns (List.replicate 16 ⟨198040, some 33871⟩)
    s.seq.transport = .stopped ∧ s.geom.head = some 250400 ∧ s.arb.chase ≠ .waiting ∧ s.arb.active = none
      ∧ paramOf s.ports.params Param.lockoutLevel ≤ s.portLevel .panel
      ∧ s.arb.returns = [] ∧ s.arb.returns.length < 16 ∧ 16 ≤ f.arb.returns.length
      ∧ f.arb.returns = ⟨198040, some 33871⟩ :: List.replicate 15 ⟨198040, some 33871⟩ := by decide +kernel

end Sys2Proof.Tests
end

/-! # The reel geometry family

The invariants of every step first (timers, bounds), then the geometry unit's own events, the timers' expiries, the requests
that begin and end a threading, and the reads. -/

namespace Sys2Proof.Machine

/-! ## Timers (R14, R38, R69, R72, R162) -/

/-- A timer that runs after a move within one state and phase ran before it. -/
theorem TimersFollow.of_stand {s t : State} (hs : TimersFollow s) (state : t.seq.transport = s.seq.transport)
    (settle : t.seq.settleTimer.isSome = true → s.seq.settleTimer.isSome = true)
    (engage : t.seq.engageTimer = true → s.seq.engageTimer = true)
    (threading : t.tension.threadingTimer = true → s.tension.threadingTimer = true)
    (measuring : t.geom.measuringTimer = true → s.geom.measuringTimer = true)
    (verify : t.locate.verifyTimer = true →
      s.locate.verifyTimer = true ∨ s.seq.transport.locatePhase = some .verify) : TimersFollow t := by
  obtain ⟨hset, heng, hthr, hmea, hver⟩ := hs
  unfold TimersFollow
  rw [state]
  exact ⟨hset ∘ settle, heng ∘ engage, hthr ∘ threading, hmea ∘ measuring, fun h => (verify h).elim hver id⟩

/-- A move that leaves the blocks with timers as they were. -/
theorem TimersFollow.of_eq {s t : State} (hs : TimersFollow s) (geom : t.geom = s.geom) (tension : t.tension = s.tension)
    (seq : t.seq = s.seq) (locate : t.locate = s.locate) : TimersFollow t := by
  unfold TimersFollow
  rw [geom, tension, seq, locate]
  exact hs

theorem sameState_threading {t : Transport} : Transport.sameState .threading t = true ↔ t = .threading := by
  cases t <;> simp [Transport.sameState]

theorem sameState_isMeasuring {t u : Transport} (h : t.sameState u = true) : t.isMeasuring = u.isMeasuring := by
  cases t <;> cases u <;> first | rfl | cases h

/-- The threading timer after a change of state runs in THREADING alone (R38). -/
theorem onChange_threadingTimer {old new : Transport} {t : Tension} (ht : t.threadingTimer = true → old = .threading)
    (h : (t.onChange old new).threadingTimer = true) : new = .threading := by
  unfold Tension.onChange at h
  split at h
  · next hsame => exact sameState_threading.mp (ht h ▸ hsame)
  · simpa using h

/-- The measuring timer after a change of state runs in MEASURING alone (R14). -/
theorem onChange_measuringTimer {old new : Transport} {g : Geometry}
    (hg : g.measuringTimer = true → old.isMeasuring = true) (h : (g.onChange old new).measuringTimer = true) :
    new.isMeasuring = true := by
  unfold Geometry.onChange at h
  split at h
  · next hsame => exact sameState_isMeasuring hsame ▸ hg h
  · by_contra hnew
    have hold : old.isMeasuring = false → g.measuringTimer = false := by
      intro ho; by_contra hg'; simp [hg (by simpa using hg')] at ho
    cases hm : old.isMeasuring <;> simp only [hm, hnew] at h <;>
      split at h <;> simp_all [Geometry.leaveMeasuring, Geometry.unthread]

/-- THE change of state stops every timer whose state or phase it leaves. -/
theorem setTransport_timersFollow {s : State} (hs : TimersFollow s) (new : Transport) (dest : Option RestDest) :
    TimersFollow (s.setTransport new dest) := by
  obtain ⟨hset, heng, hthr, hmea, hver⟩ := hs
  refine ⟨?_, ?_, onChange_threadingTimer hthr, onChange_measuringTimer hmea, ?_⟩
  · intro h
    by_contra hn
    simp only [setTransport_transport] at hn
    simp [State.setTransport, Sequencer.onChange, hn] at h
  · intro h
    by_contra hn
    simp only [setTransport_transport] at hn
    simp [State.setTransport, Sequencer.onChange, hn] at h
  · intro h
    obtain ⟨-, hphase⟩ := Bool.and_eq_true_iff.mp h
    exact beq_iff_eq.mp hphase

/-- Every move keeps each timer to its state or phase. -/
theorem Move.timersFollow {s t : State} (h : Move s t) (hs : TimersFollow s) : TimersFollow t := by
  cases h with
  | aside h =>
    refine hs.of_stand (by rw [h.seq]) ?_ ?_ ?_ ?_ h.verify
    · rw [h.seq]; exact id
    · rw [h.seq]; exact id
    · rw [h.tension]; exact id
    · rw [h.geom]; exact id
  | transport new dest => exact setTransport_timersFollow hs new dest
  | learn r => exact hs.of_eq (by simp) (by simp) (by simp) (by simp)
  | flush => exact hs.of_eq (by simp) (by simp) (by simp) (by simp)
  | geometry g _ ht => exact hs.of_stand rfl id id id ht .inl
  | stopThreadingTimer => exact hs.of_stand rfl id id (by simp [State.stopThreadingTimer]) id .inl
  | param n row v _ =>
    obtain ⟨geom, seq, -, -, locate, -, -, threading, -⟩ := writeParam_frame s n (paramStored n row v)
    exact hs.of_stand (by rw [seq]) (by rw [seq]; exact id) (by rw [seq]; exact id) (by rw [threading]; exact id)
      (by rw [geom]; exact id) (by rw [locate]; exact .inl)
  | reset l => exact ⟨by simp [State.resetWith], by simp [State.resetWith], by simp [State.resetWith],
      by simp [State.resetWith], by simp [State.resetWith]⟩
  | _ => exact hs.of_stand rfl id id id id .inl

/-- Settles O46: the moves of every step keep the timers, THE change of state stopping those it leaves behind. -/
theorem timersFollowTransport : Obligations.TimersFollowTransport :=
  fun s t h => step_keeps (fun _ _ m => m.timersFollow) s t h

/-! ## Bounds and the stop report (R1, R2, R103, R183, R185) -/

/-- A change of state keeps the head length, or defines it at 0, or makes it absent (R1). -/
theorem onChange_headInRange {g : Geometry} (hg : HeadInRange g) (old new : Transport) :
    HeadInRange (g.onChange old new) := by
  have h : (g.onChange old new).head = g.head ∨ (g.onChange old new).head = some 0
      ∨ (g.onChange old new).head = none := by
    simp only [Geometry.onChange, Geometry.leaveMeasuring, Geometry.unthread]
    split_ifs <;> simp
  intro l hl
  rcases h with h | h | h <;> rw [h] at hl
  · exact hg l hl
  · cases hl; decide
  · cases hl

theorem Move.headInRange {s t : State} (h : Move s t) (hs : HeadInRange s.geom) : HeadInRange t.geom := by
  cases h with
  | aside h => rw [h.geom]; exact hs
  | transport new dest => exact onChange_headInRange hs _ _
  | learn r => rw [mapEvent_geom]; exact hs
  | flush => rw [mapEvent_geom]; exact hs
  | geometry g hh _ => exact hh hs
  | param n row v _ => rw [(writeParam_frame s n (paramStored n row v)).1]; exact hs
  | reset l => intro k hk; cases hk
  | _ => exact hs

theorem Move.returnsBounded {s t : State} (h : Move s t) (hs : ReturnsBounded s) : ReturnsBounded t := by
  cases h with
  | aside h => exact h.returns hs
  | learn r => unfold ReturnsBounded; rw [mapEvent_arb]; exact hs
  | flush => unfold ReturnsBounded; rw [mapEvent_arb]; exact hs
  | param n row v _ =>
    obtain ⟨-, -, -, -, -, arb, -⟩ := writeParam_frame s n (paramStored n row v)
    unfold ReturnsBounded; rw [arb]; exact hs
  | reset l => exact Nat.zero_le _
  | _ => exact hs

theorem Move.reportWellFormed {s t : State} (h : Move s t) (hs : ReportWellFormed s.prot) :
    ReportWellFormed t.prot := by
  cases h with
  | aside h => exact h.report hs
  | learn r => rw [mapEvent_prot]; exact hs
  | flush => rw [mapEvent_prot]; exact hs
  | param n row v _ =>
    obtain ⟨-, -, -, -, -, -, prot, -⟩ := writeParam_frame s n (paramStored n row v)
    rw [prot]; exact hs
  | reset l => exact ⟨fun h => (Bool.false_ne_true h).elim, fun r hr => by cases hr⟩
  | _ => exact hs

/-- Settles O32: every move keeps each of the three bounds on its own. -/
theorem boundsAndReportStay : Obligations.BoundsAndReportStay := fun s t h =>
  ⟨step_keeps (P := fun u => HeadInRange u.geom) (fun _ _ m => m.headInRange) s t h,
   step_keeps (fun _ _ m => m.returnsBounded) s t h,
   step_keeps (P := fun u => ReportWellFormed u.prot) (fun _ _ m => m.reportWellFormed) s t h⟩

/-! ## Limit events and expiries without a cause (log entries 3 and 7) -/

/-- A limit event whose condition has not been raised changes nothing. -/
theorem exec_command_of_not_mem {d : Due} {s : State} (hc : Due.extStopCatch ∉ s.due) (hd : d ∉ s.due) :
    exec d.command s = .next s := by
  by_cases h : d = .extStopCatch
  · subst h
    show Host.Outcome.next (s.takeDue .extStopCatch) = .next s
    rw [takeDue_of_not_mem hd]
  · rw [exec_command h, takeCatches_of_not_mem hc, takeDue_of_not_mem hd]

/-- Settles O41: with no caught start waiting, each guard is false and the state comes back. -/
theorem eventsWithoutCauseChangeNothing : Obligations.EventsWithoutCauseChangeNothing := by
  refine ⟨fun d s hc hd => exec_command_of_not_mem hc hd, fun s hc => ?_⟩
  have e := takeCatches_of_not_mem hc
  refine ⟨fun h => ?_, fun h => ?_, fun h => ?_, fun h => ?_, fun h => ?_, ?_⟩
  · simp [exec, execThreadingTimerExpiry, e, h]
  · simp [exec, execMeasuringTimerExpiry, e, h]
  · simp [exec, execSettleTimerExpiry, e, h]
  · simp [exec, execEngageTimerExpiry, e, h]
  · simp [exec, execVerifyTimerExpiry, e, h]
  · simp [exec, execLocatedPulseEnd, e, State.endPulse]

/-! ## SET_PROFILE (R6) -/

theorem clampNmax_eq (n : Int) : clampNmax n = max 2048 (min 40960 n) := clampTo_eq_max_min (by decide) n

theorem clampInertia_eq : clampInertia = fun j => max 0 (min 65535 j) := funext (clampTo_eq_max_min (by decide))

theorem clampNmax_self_iff (n : Int) : clampNmax n = n ↔ 2048 ≤ n ∧ n ≤ 40960 := by rw [clampNmax_eq]; omega

theorem map_clampInertia_self_iff (js : List Int) :
    js.map clampInertia = js ↔ ∀ j ∈ js, 0 ≤ j ∧ j ≤ 65535 := by
  conv_lhs => rhs; rw [← List.map_id js]
  rw [List.map_inj_left]
  refine forall₂_congr fun j _ => ?_
  simp only [clampInertia_eq, id]; omega

/-- OK and CLAMPED by whether anything stored differs from what was given (R193). -/
theorem profileStatus_eq (nmax : Int) (js : List Int) :
    clampedIf (decide (clampNmax nmax ≠ nmax) || decide (js.map clampInertia ≠ js))
      = if 2048 ≤ nmax ∧ nmax ≤ 40960 ∧ ∀ j ∈ js, 0 ≤ j ∧ j ≤ 65535 then .ok else .clamped := by
  simp only [← and_assoc, ← clampNmax_self_iff, ← map_clampInertia_self_iff, clampedIf]
  by_cases h1 : clampNmax nmax = nmax <;> by_cases h2 : js.map clampInertia = js <;> simp [h1, h2]

theorem inUse_iff (g : Geometry) (n : Nat) :
    g.inUse n = true ↔ g.bound.supply = some n ∨ g.bound.takeup = some n := by simp [Geometry.inUse]

/-- Settles O16, by the first test that fails. -/
theorem setProfileChecksAndClamps : Obligations.SetProfileChecksAndClamps := by
  intro n ch cf nmax js s
  refine ⟨fun hn => ?_, fun hn hu => ?_, fun hn hs ht => ?_⟩
  · simp [State.setProfile, underTests, firstFailure, refuse, hn]
  · have hu := (inUse_iff s.geom n).mpr hu
    simp [State.setProfile, underTests, firstFailure, refuse, not_lt.mpr hn, hu]
  have hfree : s.geom.inUse n = false := by
    rw [Bool.eq_false_iff, ne_eq, inUse_iff]; exact not_or.mpr ⟨hs, ht⟩
  refine ⟨fun hbad => ?_, fun h1 h2 h3 h4 => ?_⟩
  · by_cases hch : ch < 1000 ∨ 4000 < ch
    · simp [State.setProfile, underTests, firstFailure, refuse, not_lt.mpr hn, hfree, hch]
    · have hcf : cf < ch + 500 ∨ 8190 < cf := by omega
      simp [State.setProfile, underTests, firstFailure, refuse, not_lt.mpr hn, hfree, hch, hcf]
  · have hch : ¬(ch < 1000 ∨ 4000 < ch) := by omega
    have hcf : ¬(cf < ch + 500 ∨ 8190 < cf) := by omega
    rw [← profileStatus_eq]
    simp [State.setProfile, underTests, firstFailure, not_lt.mpr hn, hfree, hch, hcf, Geometry.setSlot, State.setGeom,
      clampNmax_eq, clampInertia_eq]

/-! ## Inertia (R16, R17) -/

/-- The positions of the inertia points rise from Ch to Cf (R16). -/
theorem Profile.pointPos_mono {p : Profile} (h : p.ch + 500 ≤ p.cf) {j k : Nat} (hjk : j ≤ k) :
    p.pointPos j ≤ p.pointPos k := by
  have hmul : (j : Int) * (p.cf - p.ch) ≤ k * (p.cf - p.ch) :=
    Int.mul_le_mul_of_nonneg_right (by omega) (by omega)
  exact Int.add_le_add_left (Int.tdiv_le_tdiv (by decide) hmul) _

/-- The search finds the one segment that holds C: every earlier one ends at or below its start. -/
theorem Profile.find_segment {p : Profile} (h : p.ch + 500 ≤ p.cf) {c : Int} {k : Nat} (hk : k < 7)
    (hlo : p.pointPos k ≤ c) (hhi : c < p.pointPos (k + 1)) :
    (List.range 7).find? (fun k => decide (c < p.pointPos (k + 1))) = some k := by
  rw [List.find?_range_eq_some]
  refine ⟨by simpa using hhi, List.mem_range.mpr hk, fun j hj => ?_⟩
  simpa using (p.pointPos_mono h (Nat.succ_le_of_lt hj)).trans hlo

theorem Profile.inertiaAt_segment {p : Profile} (h : p.ch + 500 ≤ p.cf) {c : Int} {k : Nat} (hk : k < 7)
    (hlo : p.pointPos k ≤ c) (hhi : c < p.pointPos (k + 1)) : p.inertiaAt c = p.segment c k := by
  have h0 : ¬ c < p.pointPos 0 := not_lt.mpr ((p.pointPos_mono h (Nat.zero_le k)).trans hlo)
  have h7 : ¬ p.pointPos 7 ≤ c := not_le.mpr (hhi.trans_le (p.pointPos_mono h hk))
  unfold Profile.inertiaAt
  rw [if_neg h0, if_neg h7, Profile.find_segment h hk hlo hhi]

/-- Settles O31. -/
theorem inertiaInterpolatesBetweenPoints : Obligations.InertiaInterpolatesBetweenPoints := by
  refine ⟨fun p c h => ⟨fun h0 => ?_, fun h7 => ?_, fun k hk hlo hhi => p.inertiaAt_segment h hk hlo hhi⟩,
    fun g r => ⟨fun hc => ?_, fun p c hp hc => ?_⟩⟩
  · unfold Profile.inertiaAt
    rw [if_pos h0]
  · unfold Profile.inertiaAt
    rw [if_neg (not_lt.mpr ((p.pointPos_mono h (by omega)).trans h7)), if_pos h7]
  · simp [Geometry.inertia, hc]
  · simp [Geometry.inertia, hp, hc]

/-! ## Roller, reel and capstan counts (R1, R2, R9, R43, R44, R121) -/

theorem exec_rollerCount {s : State} (h : Due.extStopCatch ∉ s.due) (d : Sense) :
    exec (.rollerCount d) s = .next (s.rollerCount d) := by
  show Host.Outcome.next (s.takeCatches.rollerCount d) = _
  rw [takeCatches_of_not_mem h]

theorem exec_reelCount {s : State} (h : Due.extStopCatch ∉ s.due) (r : Reel) (u : Turn) :
    exec (.reelCount r u) s = .next (s.reelCount r u) := by
  show Host.Outcome.next (s.takeCatches.reelCount r u) = _
  rw [takeCatches_of_not_mem h]

theorem exec_capstanCount {s : State} (h : Due.extStopCatch ∉ s.due) (d : Sense) :
    exec (.capstanCount d) s
      = .next (s.setSpeed { s.speed with capstan := s.speed.capstan.count d.sign }) := by
  show Host.Outcome.next (s.takeCatches.setSpeed _) = _
  rw [takeCatches_of_not_mem h]

/-- A count that keeps a defined head length in its range moves it (R1). -/
theorem countHead_inside {g : Geometry} {d : Sense}
    (h : ∀ l, g.head = some l → -8388608 ≤ l + d.sign ∧ l + d.sign ≤ 8388607) :
    g.countHead d = ({ g with head := g.head.map (fun l => l + d.sign) }, false) := by
  obtain ⟨head, est, profiles, bound, timer⟩ := g
  cases head with
  | none => rfl
  | some l =>
    obtain ⟨hlo, hhi⟩ := h l rfl
    have hin : ¬(l + d.sign < headMin ∨ headMax < l + d.sign) := by unfold headMin headMax; omega
    simp [Geometry.countHead, hin]

/-- A count past a limit is discarded (R2). -/
theorem countHead_outside {g : Geometry} {d : Sense} {l : Int} (hl : g.head = some l)
    (h : l + d.sign < -8388608 ∨ 8388607 < l + d.sign) : g.countHead d = (g, true) := by
  have hout : l + d.sign < headMin ∨ headMax < l + d.sign := h
  simp [Geometry.countHead, hl, hout]

theorem countRoller_head (s : State) (d : Sense) : (s.countRoller d).geom.head = s.geom.head :=
  (countWindows_head s.geom s.seq.transport.estimating d).1

/-- A roller count that the head length takes raises no cause. -/
theorem rollerCount_inside {s : State} {d : Sense}
    (h : ∀ l, s.geom.head = some l → -8388608 ≤ l + d.sign ∧ l + d.sign ≤ 8388607) :
    s.rollerCount d = (s.countRoller d).setGeom
      { (s.countRoller d).geom with head := s.geom.head.map (fun l => l + d.sign) } := by
  rw [← countRoller_head s d] at h ⊢
  simp [State.rollerCount, countHead_inside h, State.takeCauseIf]

/-- A roller count that the head length discards takes RANGE (R2). -/
theorem rollerCount_outside {s : State} {d : Sense} {l : Int} (hl : s.geom.head = some l)
    (h : l + d.sign < -8388608 ∨ 8388607 < l + d.sign) :
    s.rollerCount d = (s.countRoller d).takeCause .range .none := by
  rw [← countRoller_head s d] at hl
  simp only [State.rollerCount, countHead_outside hl h]
  rfl

/-- The gap count runs at a report the part would accept, with a span OPEN (R121). -/
theorem countGap_runs_iff (s : State) :
    (s.acceptsReports && s.map.openSpan.isSome) = true ↔
      s.seq.transport.reading = true ∧ mag s.speed.vMeas ≤ paramOf s.ports.params Param.reportSpeed
        ∧ ∃ p ∈ s.map.spans, p.isOpen = true := by
  unfold State.acceptsReports MapUnit.openSpan
  rw [Bool.and_eq_true, Bool.and_eq_true, decide_eq_true_iff, List.find?_isSome, and_assoc]
  rfl

/-- A reel count in its reel's history (R44). -/
def State.noteReel (r : Reel) (u : Turn) (s : State) : State :=
  s.setSpeed { s.speed with reels := s.speed.reels.modify r (History.count u.sign) }

@[simp] theorem noteReel_geom (s : State) (r : Reel) (u : Turn) : (s.noteReel r u).geom = s.geom := rfl
@[simp] theorem noteReel_seq (s : State) (r : Reel) (u : Turn) : (s.noteReel r u).seq = s.seq := rfl

theorem reelCount_idle {s : State} (r : Reel) (u : Turn) (h : s.seq.transport.estimating = false) :
    s.reelCount r u = s.noteReel r u := by
  simp [State.reelCount, State.noteReel, h]

theorem reelCount_active {s : State} (r : Reel) (u : Turn) (h : s.seq.transport.estimating = true) :
    s.reelCount r u = (s.noteReel r u).estimateReel r u := by
  simp [State.reelCount, State.noteReel, h]

/-- A reel whose mode a count leaves alone completes no measurement (R14). -/
theorem measured_set_of_mode {g : Geometry} {r : Reel} {e : Estimator} (h : e.mode = (g.est.get r).mode) :
    ({ g with est := g.est.set r e } : Geometry).measured = g.measured := by
  cases r <;> simp_all [Geometry.measured, Pair.set, Pair.get]

/-- The estimate of a count that leaves its reel's mode alone: the estimator, and the condition it raises (R9, R11). -/
theorem estimateReel_of_mode {s : State} {r : Reel} {u : Turn} {e : Estimator} {b : Bool}
    (he : (s.geom.est.get r).reelCount r (s.geom.profile r) u = (e, b)) (hm : e.mode = (s.geom.est.get r).mode) :
    s.estimateReel r u = (s.setGeom { s.geom with est := s.geom.est.set r e }).raiseDue b (.reject r) := by
  have hg := measured_set_of_mode (g := s.geom) hm
  simp only [State.estimateReel, he]
  rw [if_neg]
  simp [hg]

/-- A count short of 256 moves its window alone (R9). -/
theorem reelCount_open {e : Estimator} {r : Reel} {p : Option Profile} {u : Turn} (h : mag (e.dn + u.sign) ≠ 256) :
    e.reelCount r p u = ({ e with dn := e.dn + u.sign }, false) := by
  simp [Estimator.reelCount, h]

/-- Settles O29. -/
theorem countsEnterWindowsAndHistories : Obligations.CountsEnterWindowsAndHistories := by
  refine ⟨fun d s hr hc => ?_, fun d s hc => exec_capstanCount hc d, fun r u s hc => ⟨fun hi => ?_, fun ha hn => ?_⟩⟩
  · rw [exec_rollerCount hc, rollerCount_inside hr]
    simp only [← countGap_runs_iff]
    congr 1
    cases h : s.seq.transport.estimating <;>
      cases hg : (s.acceptsReports && s.map.openSpan.isSome) <;>
        simp [State.countRoller, Geometry.countWindows, MapUnit.countGap, h, hg, Pair.map, History.count, State.setGeom,
          State.setMap, State.setSpeed]
  · rw [exec_reelCount hc, reelCount_idle r u hi]
    rfl
  · rw [exec_reelCount hc, reelCount_active r u ha, estimateReel_of_mode (s := s.noteReel r u) (reelCount_open hn) rfl]
    rfl

/-! ## Taking a cause (R175 to R184) -/

/-- A stop demand writes no stop report, and outside MEASURING it keeps the head length (R1). -/
theorem stopDemand_frame (s : State) :
    s.stopDemand.prot.report = s.prot.report ∧ s.stopDemand.prot.unread = s.prot.unread
      ∧ (s.seq.transport.isMeasuring = false → s.stopDemand.geom.head = s.geom.head) := by
  have ended := endByProtection_spec s
  have stop : s.enterProtectStop.prot.report = s.prot.report ∧ s.enterProtectStop.prot.unread = s.prot.unread
      ∧ (s.seq.transport.isMeasuring = false → s.enterProtectStop.geom.head = s.geom.head) := by
    refine ⟨congrArg _ ended.prot, congrArg _ ended.prot, fun h => ?_⟩
    unfold State.enterProtectStop
    rw [setTransport_head none (by rw [ended.seq]; exact h) (by simp), ended.geom]
  have unthread : s.enterUnthreading.prot.report = s.prot.report ∧ s.enterUnthreading.prot.unread = s.prot.unread
      ∧ (s.seq.transport.isMeasuring = false → s.enterUnthreading.geom.head = s.geom.head) := by
    refine ⟨by simp [State.enterUnthreading], by simp [State.enterUnthreading], fun h => ?_⟩
    unfold State.enterUnthreading
    rw [dropPending_geom, setTransport_head none h (by simp)]
  unfold State.stopDemand
  split
  · exact unthread
  all_goals first | exact stop | exact ⟨rfl, rfl, fun _ => rfl⟩

/-- A fault demand writes no stop report, and outside MEASURING it keeps the head length (R1). -/
theorem faultDemand_frame (s : State) :
    s.faultDemand.prot.report = s.prot.report ∧ s.faultDemand.prot.unread = s.prot.unread
      ∧ (s.seq.transport.isMeasuring = false → s.faultDemand.geom.head = s.geom.head) := by
  have ended := endByProtection_spec s
  unfold State.faultDemand
  split
  · exact ⟨rfl, rfl, fun _ => rfl⟩
  · refine ⟨?_, ?_, fun h => ?_⟩
    · show s.endByProtection.prot.report = _
      rw [ended.prot]
    · show s.endByProtection.prot.unread = _
      rw [ended.prot]
    · show (s.endByProtection.setTransport .faulted none).geom.head = _
      rw [setTransport_head none (by rw [ended.seq]; exact h) (by simp), ended.geom]

/-- A cause taken leaves the stop report as its capture wrote it, and outside MEASURING the head length as it was. -/
theorem takeCause_frame {s : State} (c : Cause) (a : CauseAxis) :
    (s.seq.transport ≠ .unthreaded →
      (s.takeCause c a).prot.report = (s.capture c a).prot.report
        ∧ (s.takeCause c a).prot.unread = (s.capture c a).prot.unread)
      ∧ (s.seq.transport.isMeasuring = false → (s.takeCause c a).geom.head = s.geom.head) := by
  obtain ⟨freport, funread, fhead⟩ := faultDemand_frame (s.capture c a)
  obtain ⟨sreport, sunread, shead⟩ := stopDemand_frame (s.capture c a)
  rw [capture_seq, capture_geom] at fhead shead
  unfold State.takeCause
  by_cases hu : s.seq.transport = .unthreaded
  · rw [if_pos hu]
    exact ⟨fun h => absurd hu h, fun _ => rfl⟩
  · rw [if_neg hu]
    cases c.isFault
    · exact ⟨fun _ => ⟨sreport, sunread⟩, shead⟩
    · exact ⟨fun _ => ⟨freport, funread⟩, fhead⟩

theorem mem_addCause (c : Cause) (cs : List Cause) : c ∈ addCause c cs := by
  unfold addCause
  split
  · next h => simpa using h
  · simp

/-- A cause taken outside UNTHREADED leaves a report unread: its own when none stood unread, else the unread one with the
cause among its later causes (R184). -/
theorem takeCause_report {s : State} (c : Cause) (a : CauseAxis) (h : s.seq.transport ≠ .unthreaded) :
    (s.takeCause c a).prot.unread = true
      ∧ ((s.prot.report = none ∨ s.prot.unread = false) →
        (s.takeCause c a).prot.report = some (s.snapshot c a))
      ∧ ∀ r, s.prot.report = some r → s.prot.unread = true →
        (s.takeCause c a).prot.report = some { r with later := addCause c r.later } := by
  obtain ⟨report, unread⟩ := (takeCause_frame c a).1 h
  obtain ⟨q, hq, fresh, held⟩ := capture_spec s c a
  rw [report, unread, hq]
  exact ⟨rfl, fun h => congrArg some (fresh h), fun r h1 h2 => congrArg some (held r h1 h2)⟩

/-! ## The head length at its limits (R2) -/

/-- Settles O28: inside the range the count moves the head, past a limit it is RANGE alone. -/
theorem rollerCountKeepsHeadRange : Obligations.RollerCountKeepsHeadRange := by
  intro d h s hh hc
  refine ⟨s.rollerCount d, exec_rollerCount hc d, fun hlo hhi => ?_, fun hout hm => ?_⟩
  · have hin : ∀ l, s.geom.head = some l → -8388608 ≤ l + d.sign ∧ l + d.sign ≤ 8388607 := by
      intro l hl; rw [hh] at hl; cases hl; exact ⟨hlo, hhi⟩
    rw [rollerCount_inside hin, hh]
    exact ⟨rfl, rfl⟩
  · rw [rollerCount_outside hh hout]
    refine ⟨?_, fun hu => ?_⟩
    · rw [(takeCause_frame (s := s.countRoller d) .range .none).2 hm, countRoller_head, hh]
    · obtain ⟨unread, fresh, held⟩ := takeCause_report (s := s.countRoller d) .range .none hu
      exact ⟨unread, fun hr => ⟨_, fresh hr, rfl, rfl, rfl⟩,
        fun r h1 h2 => ⟨_, held r h1 h2, rfl, mem_addCause _ _⟩⟩

/-! ## The closed window (R9 to R12, R14) -/

section ClosedWindow

variable {e : Estimator} {r : Reel} {p : Profile} {u : Turn}

/-- The count that brings |Δn| to 256 evaluates the window (R9). -/
theorem reelCount_closed (hw : mag (e.dn + u.sign) = 256) :
    e.reelCount r (some p) u = ({ e with dn := e.dn + u.sign } : Estimator).evaluate r (some p) := by
  simp [Estimator.reelCount, hw]

theorem valid_iff (e : Estimator) (r : Reel) :
    e.valid r = true ↔ 64 ≤ mag e.dl ∧ e.dl.sign = r.tapeSign * e.dn.sign := by
  simp [Estimator.valid]

/-- A window of 256 reel counts gives four counts of circumference for each roller count (R10). -/
theorem measured_of_closed (h : mag e.dn = 256) : e.measured = 4 * mag e.dl := by
  have hd : mag e.dl * 1024 = 4 * mag e.dl * 256 := by ring
  simp [Estimator.measured, truncDiv, h, hd]

theorem plausible_iff (p : Profile) (m : Int) :
    p.plausible m = true ↔ truncDiv (p.ch * 7) 8 ≤ m ∧ m ≤ 8190 := by
  simp [Profile.plausible]

/-- An invalid window is only reopened (R10). -/
theorem reelCount_invalid (hw : mag (e.dn + u.sign) = 256)
    (hv : ¬(64 ≤ mag e.dl ∧ e.dl.sign = r.tapeSign * (e.dn + u.sign).sign)) :
    e.reelCount r (some p) u = ({ e with dn := 0, dl := 0 }, false) := by
  rw [← valid_iff { e with dn := e.dn + u.sign }] at hv
  simp [reelCount_closed hw, Estimator.evaluate, hv, Estimator.reopen]

/-- A valid window with an implausible sample is rejected; the third in a row raises the condition (R11). -/
theorem reelCount_rejected (hw : mag (e.dn + u.sign) = 256)
    (hv : 64 ≤ mag e.dl ∧ e.dl.sign = r.tapeSign * (e.dn + u.sign).sign)
    (hp : ¬(truncDiv (p.ch * 7) 8 ≤ 4 * mag e.dl ∧ 4 * mag e.dl ≤ 8190)) :
    e.reelCount r (some p) u
      = if e.reject + 1 = 3 then ({ e with dn := 0, dl := 0, reject := 0 }, true)
        else ({ e with dn := 0, dl := 0, reject := e.reject + 1 }, false) := by
  rw [← valid_iff { e with dn := e.dn + u.sign }] at hv
  rw [← plausible_iff] at hp
  have hm := measured_of_closed (e := { e with dn := e.dn + u.sign }) hw
  simp only [reelCount_closed hw, Estimator.evaluate, hv, hm, hp, Estimator.reopen]
  rfl

/-- A plausible sample sets C and passes the reel to TRACKING (R11, R12, R14). -/
theorem reelCount_plausible (hw : mag (e.dn + u.sign) = 256)
    (hv : 64 ≤ mag e.dl ∧ e.dl.sign = r.tapeSign * (e.dn + u.sign).sign)
    (hp : truncDiv (p.ch * 7) 8 ≤ 4 * mag e.dl ∧ 4 * mag e.dl ≤ 8190) :
    e.reelCount r (some p) u
      = ({ c := some (match e.mode with
            | .initial => clampTo p.ch 8190 (4 * mag e.dl)
            | .tracking => filterStep p.ch (e.c.getD p.ch) (4 * mag e.dl))
           mode := .tracking, dn := 0, dl := 0, reject := 0 }, false) := by
  rw [← valid_iff { e with dn := e.dn + u.sign }] at hv
  rw [← plausible_iff] at hp
  have hm := measured_of_closed (e := { e with dn := e.dn + u.sign }) hw
  simp only [reelCount_closed hw, Estimator.evaluate, hv, hm, hp, Estimator.reopen]
  rfl

end ClosedWindow

theorem sign_eq_ite (d : Int) : d.sign = if 0 < d then 1 else if d < 0 then -1 else 0 := by
  rcases lt_trichotomy d 0 with h | h | h
  · simp [h, h.le, Int.sign_eq_neg_one_of_neg h]
  · simp [h]
  · simp [h, Int.sign_eq_one_of_pos h]

/-- The measurement of an INITIAL reel completes the geometry in MEASURING when the other reel is measured (R14). -/
theorem estimateReel_initial {s : State} {r o : Reel} {u : Turn} {e : Estimator} (ho : o ≠ r)
    (he : (s.geom.est.get r).reelCount r (s.geom.profile r) u = (e, false))
    (hi : (s.geom.est.get r).mode = .initial) (ht : e.mode = .tracking) :
    s.estimateReel r u
      = if s.seq.transport.isMeasuring = true ∧ (s.geom.est.get o).mode = .tracking
        then (s.setGeom { s.geom with est := s.geom.est.set r e }).geometryMeasured
        else s.setGeom { s.geom with est := s.geom.est.set r e } := by
  have before : s.geom.measured = false := by cases r <;> simp_all [Geometry.measured, Pair.get]
  have after : ({ s.geom with est := s.geom.est.set r e } : Geometry).measured
      = ((s.geom.est.get o).mode == .tracking) := by
    cases r <;> cases o <;> simp_all [Geometry.measured, Pair.set, Pair.get]
  simp [State.estimateReel, he, before, after, State.raiseDue]

/-- Geometry measured in CREEP_STOP stops the measuring timer alone (R14). -/
theorem geometryMeasured_creepStop {s : State} (h : s.seq.transport = .measuring .creepStop) :
    s.geometryMeasured = s.setGeom { s.geom with measuringTimer := false } := by
  simp [State.geometryMeasured, State.stopMeasuringTimer, h]

/-- Geometry measured in CREEP stops the timer and begins CREEP_STOP for SETTLING (R14, R67). -/
theorem geometryMeasured_creep {s : State} (h : s.seq.transport = .measuring .creep) :
    s.geometryMeasured
      = (s.setGeom { s.geom with measuringTimer := false }).setTransport (.measuring .creepStop) (some .settling) := by
  simp [State.geometryMeasured, State.stopMeasuringTimer, h]

theorem setTransport_reels {s : State} {new : Transport} (d : Option RestDest) (hn : new ≠ .unthreaded) :
    (s.setTransport new d).speed.reels = s.speed.reels := by
  obtain ⟨-, -, reels, -⟩ := setTransport_measured (s := s) d (.inr hn)
  exact reels

/-- Settles O30: the closed window by validity, plausibility and mode. -/
theorem closedWindowMeasuresFiltersOrRejects : Obligations.ClosedWindowMeasuresFiltersOrRejects := by
  intro r o u p e valid plausible s w ho hest hprof he hw hc hvalid hplaus hws
  rw [exec_reelCount hc, reelCount_active r u hest]
  obtain rfl : w = s.noteReel r u := hws
  subst he
  refine ⟨fun hv => ?_, fun hv hp hr => ?_, fun hv hp hr => ?_, fun hv hp hm c d step hcc hd hstep => ?_,
    fun hv hp hm g hg => ?_⟩
  · have hcount := reelCount_invalid (p := p) hw (mt hvalid.mpr hv)
    rw [← hprof] at hcount
    rw [estimateReel_of_mode (s := s.noteReel r u) hcount rfl]
    rfl
  · have hcount := reelCount_rejected hw (hvalid.mp hv) (mt hplaus.mpr hp)
    rw [if_neg hr, ← hprof] at hcount
    rw [estimateReel_of_mode (s := s.noteReel r u) hcount rfl]
    rfl
  · have hcount := reelCount_rejected hw (hvalid.mp hv) (mt hplaus.mpr hp)
    rw [if_pos hr, ← hprof] at hcount
    rw [estimateReel_of_mode (s := s.noteReel r u) hcount rfl]
    rfl
  · have hcount := reelCount_plausible hw (hvalid.mp hv) (hplaus.mp hp)
    have hfilter : filterStep p.ch c (4 * mag (s.geom.est.get r).dl) = clampTo p.ch 8190 (c + step) := by
      simp only [filterStep, ← hd, sign_eq_ite, ← hstep]
    simp only [hm, hcc, Option.getD_some, hfilter] at hcount
    rw [← hprof] at hcount
    rw [estimateReel_of_mode (s := s.noteReel r u) hcount hm.symm]
    rfl
  · have hcount := reelCount_plausible hw (hvalid.mp hv) (hplaus.mp hp)
    simp only [hm] at hcount
    rw [← hprof] at hcount
    rw [estimateReel_initial (s := s.noteReel r u) ho hcount hm rfl]
    subst hg
    refine ⟨fun hnot => ?_, fun hot hstate => ?_, fun hot hstate => ?_⟩
    · rw [if_neg]
      · rfl
      · rintro ⟨hmeas, hot⟩
        rcases hnot with h | h
        · exact Bool.false_ne_true (h.symm.trans hmeas)
        · exact absurd (h.symm.trans hot) (by simp)
    · rw [if_pos ⟨congrArg Transport.isMeasuring hstate, hot⟩, geometryMeasured_creepStop (by exact hstate)]
      rfl
    · rw [if_pos ⟨congrArg Transport.isMeasuring hstate, hot⟩, geometryMeasured_creep (by exact hstate)]
      exact ⟨_, rfl, setTransport_geom_same _ (by simp [hstate, Transport.sameState]), rfl, rfl,
        setTransport_kind _ (by simp [hstate]) rfl, setTransport_reels _ (by simp), setTransport_vRef _ rfl, rfl, rfl,
        setTransport_keeps_prot _ rfl, rfl, rfl⟩

/-! ## The reads (R7, R128, R146, R147, R185, R197, R198, R202) -/

theorem byteAt_singleton (b : Byte) : byteAt [b] 0 = b.toNat := by simp [byteAt, bytesAt, unsignedOf]

/-- Every reading kind is permitted to both ports (R194), and it is the request of its number. -/
theorem carryOut_read {s : State} (port : Port) (b : Byte) :
    s.carryOut port 20 [b] = s.readMark b.toNat ∧ s.carryOut port 21 [b] = s.listMarks b.toNat
      ∧ s.carryOut port 22 [b] = s.readSpans b.toNat ∧ s.carryOut port 25 [b] = s.readProfile b.toNat
      ∧ s.carryOut port 27 [b] = s.readParameter b.toNat
      ∧ s.carryOut port 28 [] = answer (s.encodeStatus port) s
      ∧ s.carryOut port 29 [] = answer s.encodeGeometry s
      ∧ s.carryOut port 30 [] = s.readStopReport := by
  rw [← byteAt_singleton b]
  cases port <;> exact ⟨rfl, rfl, rfl, rfl, rfl, rfl, rfl, rfl⟩

/-- A request under one test. -/
theorem underTests_one (fails : Bool) (st : Status) (act : State → Carried) (s : State) :
    underTests [(fails, st)] act s = if fails then refuse st s else act s := by cases fails <;> rfl

theorem readMark_eq {s : State} {n : Nat} (h : n ≤ 127) :
    s.readMark n
      = (markAt s.marks n).elim (refuse .noSuchMark s) (fun m => answer (m.encodeRead s.map.spans) s) := by
  have hn : badNumber n = false := by simpa [badNumber] using h
  cases hm : markAt s.marks n <;> simp [State.readMark, underTests, firstFailure, heldTest, hn, hm]

theorem readStopReport_none {s : State} (h : s.prot.report = none) : s.readStopReport = refuse .empty s := by
  simp [State.readStopReport, h]

theorem readStopReport_some {s : State} {r : StopReport} (h : s.prot.report = some r) :
    s.readStopReport = answer (r.encode s.prot.unread) s.clearUnread := by
  simp [State.readStopReport, h]

theorem slotProfile_eq (g : Geometry) (n : Nat) : g.slotProfile n = (g.profiles[n]?).getD none := by
  unfold Geometry.slotProfile
  cases g.profiles[n]? <;> rfl

/-- Settles O12: every read is its rule's encoding of the state as it stands. -/
theorem readsAnswerTheStateAsItStands : Obligations.ReadsAnswerTheStateAsItStands := by
  intro port b s reel mark span ok hok hreel hmark hspan
  obtain rfl : ok = fun bs => answer bs s := funext hok
  obtain rfl : reel = s.encodeReel := funext hreel
  obtain rfl : mark = Mark.encode := funext hmark
  obtain rfl : span = Span.encode := funext hspan
  obtain ⟨readMark, listMarks, readSpans, readProfile, readParameter, readStatus, readGeometry, readReport⟩ :=
    carryOut_read (s := s) port b
  rw [readMark, listMarks, readSpans, readProfile, readParameter, readStatus, readGeometry, readReport]
  refine ⟨rfl, rfl, fun h => ?_, fun r h => ⟨_, rfl, ?_⟩, fun h => ⟨?_, ?_⟩, fun h => ⟨fun hm => ?_, fun m hm => ?_,
    fun ms hms => ?_⟩, fun h => ?_, fun h ps hps => ?_, fun h => ?_, fun h p hp => ?_, fun h => ?_, fun row h => ?_⟩
  · rw [readStopReport_none h]
    rfl
  · rw [readStopReport_some h]
    rfl
  · simp [State.readMark, underTests, firstFailure, badNumber, h, refuse]
  · simp [State.listMarks, underTests_one, badNumber, h, refuse]
  · rw [readMark_eq h, hm]
    rfl
  · rw [readMark_eq h, hm, List.append_assoc]
    rfl
  · rw [hms, State.listMarks, underTests_one, if_neg (by simpa [badNumber] using h)]
    rfl
  · simp [State.readSpans, underTests_one, h, refuse]
  · rw [hps, State.readSpans, underTests_one, if_neg (by simpa using h)]
    rfl
  · simp [State.readProfile, underTests_one, h, refuse]
  · rw [State.readProfile, underTests_one, if_neg (by simpa using h)]
    rw [Geometry.encodeProfile, slotProfile_eq, ← hp]
    rfl
  · have hrow : paramRows[b.toNat]? = none := List.getElem?_eq_none (by rw [paramRows_length]; omega)
    simp [State.readParameter, hrow, refuse]
  · simp only [State.readParameter, h]
    rfl

/-! ## The timers' expiries (R14, R38, R69, R70, R72, R78) -/

/-- A fault cause under tension enters FAULTED with FAULT raised (R78, R181). -/
theorem takeCause_fault {s : State} {c : Cause} (a : CauseAxis) (hc : c.isFault = true)
    (hs : s.seq.transport.isForced = false) :
    (s.takeCause c a).seq.transport = .faulted ∧ ∀ p, ((s.takeCause c a).ports.port p).has .fault = true := by
  have hu : s.seq.transport ≠ .unthreaded := fun h => by rw [h] at hs; cases hs
  have hf : (s.capture c a).seq.transport.isForced = false := by rw [capture_seq]; exact hs
  have e : s.takeCause c a = (s.capture c a).enterFaulted := by
    simp [State.takeCause, hu, hc, faultDemand_eq hf]
  rw [e]
  exact ⟨rfl, fun p => by simp [State.enterFaulted, raise_has]⟩

/-- A stop cause in the states under tension but PROTECT_STOP enters PROTECT_STOP (R77, R180). -/
theorem takeCause_stop {s : State} {c : Cause} (a : CauseAxis) (hc : c.isFault = false)
    (hs : s.seq.transport.counting = true) (hp : s.seq.transport ≠ .protectStop) :
    s.takeCause c a = (s.capture c a).enterProtectStop := by
  have hu : s.seq.transport ≠ .unthreaded := fun h => by rw [h] at hs; cases hs
  have hd : (s.capture c a).stopDemand = (s.capture c a).enterProtectStop :=
    stopDemand_eq (by rw [capture_seq]; exact hs) (by rw [capture_seq]; exact hp)
  simp [State.takeCause, hu, hc, hd]

/-- An arm out of its band names its axis, the supply axis first (R38). -/
theorem lossAxis_of_out (ps : List Int) (t : Tension) :
    (200 < mag (t.axes.supply.arm - armCentre ps .supply) → t.lossAxis ps = some .supply)
      ∧ (mag (t.axes.supply.arm - armCentre ps .supply) ≤ 200 →
        200 < mag (t.axes.takeup.arm - armCentre ps .takeup) → t.lossAxis ps = some .takeup) := by
  constructor
  · intro h
    simp [Tension.lossAxis, Tension.firstOut, inBand, h]
  · intro h1 h2
    simp [Tension.lossAxis, Tension.firstOut, inBand, h1, h2]

/-- The threading timer's TENSION_LOSS in THREADING: FAULTED, and a report of the axis the rule states (R38, R78). -/
theorem threadingLoss_spec {s : State} (ht : s.seq.transport = .threading) (hu : s.prot.unread = false) :
    s.threadingLoss.seq.transport = .faulted ∧ s.threadingLoss.geom.head = s.geom.head
      ∧ (∀ p, (s.threadingLoss.ports.port p).has .fault = true)
      ∧ ∃ q, s.threadingLoss.prot.report = some q ∧ q.cause = .tensionLoss
        ∧ ∀ r, s.tension.lossAxis s.ports.params = some r → q.axis = r.axis := by
  have taken : ∀ (u : State) (a : CauseAxis), u.seq = s.seq → u.geom = s.geom → u.prot = s.prot →
      (u.takeCause .tensionLoss a).seq.transport = .faulted ∧ (u.takeCause .tensionLoss a).geom.head = s.geom.head
        ∧ (∀ p, ((u.takeCause .tensionLoss a).ports.port p).has .fault = true)
        ∧ (u.takeCause .tensionLoss a).prot.report = some (u.snapshot .tensionLoss a) := by
    intro u a hseq hgeom hprot
    rw [← hseq] at ht
    rw [← hprot] at hu
    rw [← hgeom]
    obtain ⟨faulted, flag⟩ := takeCause_fault (s := u) (c := .tensionLoss) a rfl (by rw [ht]; rfl)
    obtain ⟨-, fresh, -⟩ := takeCause_report (s := u) .tensionLoss a (by rw [ht]; simp)
    exact ⟨faulted, (takeCause_frame .tensionLoss a).2 (by rw [ht]; rfl), flag, fresh (.inr hu)⟩
  unfold State.threadingLoss
  split
  · next r hr =>
    obtain ⟨faulted, head, flag, report⟩ := taken s r.axis rfl rfl rfl
    refine ⟨faulted, head, flag, _, report, rfl, fun r' h => ?_⟩
    rw [hr] at h
    cases h
    rfl
  · next hr =>
    obtain ⟨faulted, head, flag, report⟩ := taken s.drawFree (Config.unstatedThreadingAxis s.draws).axis rfl rfl rfl
    refine ⟨faulted, head, flag, _, report, rfl, fun r' h => ?_⟩
    rw [hr] at h
    cases h

/-- Leaving MEASURING for PROTECT_STOP defines the head length at 0 and passes both reels to TRACKING (R1, R14). -/
theorem onChange_leaveMeasuring {g : Geometry} {old : Transport} (h : old.isMeasuring = true) :
    (g.onChange old .protectStop).head = some 0 ∧ (g.onChange old .protectStop).est.supply.mode = .tracking
      ∧ (g.onChange old .protectStop).est.takeup.mode = .tracking := by
  cases old with
  | measuring phase => exact ⟨rfl, rfl, rfl⟩
  | _ => cases h

/-- The entry to PROTECT_STOP is one change of state over what was ended (R77). -/
theorem enterProtectStop_geom (s : State) :
    s.enterProtectStop.geom = s.geom.onChange s.seq.transport .protectStop := by
  have ended := endByProtection_spec s
  rw [← ended.geom, ← ended.seq]
  rfl

/-- The measuring timer's GEOMETRY names the first unmeasured reel (R14). -/
theorem measuringLoss_eq {s : State} (h : s.geom.est.supply.mode = .initial ∨ s.geom.est.takeup.mode = .initial) :
    s.measuringLoss = s.takeCause .geometry (if s.geom.est.supply.mode = .initial then .supply else .takeup) := by
  unfold State.measuringLoss Geometry.unmeasured
  by_cases hs : s.geom.est.supply.mode = .initial
  · simp [hs, Reel.axis]
  · simp [hs, h.resolve_left hs, Reel.axis]

/-- A change of state into a capstan-driven state keeps the capstan loop (R55). -/
theorem setTransport_keeps_loop {s : State} {new : Transport} (d : Option RestDest) (h : new.genMode = .capstan) :
    (s.setTransport new d).speed.loop = s.speed.loop := by
  have hf : new.isForced = false := by cases new <;> simp_all [Transport.genMode, Transport.isForced]
  have hu : new ≠ .unthreaded := by rintro rfl; cases h
  simp only [setTransport_speed, Speed.onChange, Transport.capstanActive, h, hf, hu]
  split <;> simp

/-- Settles O48, timer by timer. -/
theorem timerExpiriesAct : Obligations.TimerExpiriesAct := by
  intro s hc
  have e := takeCatches_of_not_mem hc
  refine ⟨fun hon ht hu => ?_, fun hon hm hu hmode => ?_, fun ms hon ht hch hslot => ?_, fun hon ht => ?_⟩
  · obtain ⟨faulted, head, flag, q, report, cause, axis⟩ := threadingLoss_spec (s := s.stopThreadingTimer) ht hu
    obtain ⟨supply, takeup⟩ := lossAxis_of_out s.ports.params s.stopThreadingTimer.tension
    exact ⟨s.stopThreadingTimer.threadingLoss, by simp [exec, execThreadingTimerExpiry, e, hon], faulted, head, flag, q,
      report, cause, fun h => axis _ (supply h), fun h1 h2 => axis _ (takeup h1 h2)⟩
  · have hcount : s.seq.transport.counting = true := by
      cases h : s.seq.transport <;> simp_all [Transport.isMeasuring, Transport.counting]
    have hp : s.seq.transport ≠ .protectStop := fun h => by rw [h] at hm; cases hm
    refine ⟨s.stopMeasuringTimer.measuringLoss, by simp [exec, execMeasuringTimerExpiry, e, hon], ?_⟩
    rw [measuringLoss_eq (s := s.stopMeasuringTimer) hmode]
    have hthreaded : s.seq.transport ≠ .unthreaded := fun h => by rw [h] at hm; cases hm
    obtain ⟨-, fresh, -⟩ := takeCause_report (s := s.stopMeasuringTimer) .geometry
      (if s.geom.est.supply.mode = .initial then .supply else .takeup) hthreaded
    obtain ⟨head, supply, takeup⟩ := onChange_leaveMeasuring (g := s.stopMeasuringTimer.geom) hm
    refine ⟨?_, ?_, ?_, ?_, _, fresh (.inr hu), rfl, rfl⟩
    all_goals rw [takeCause_stop _ rfl (by exact hcount) (by exact hp)]
    · rfl
    all_goals rw [enterProtectStop_geom, capture_geom, capture_seq]
    · exact head
    · exact supply
    · exact takeup
  · refine ⟨s.enterStopped, by simp [exec, execSettleTimerExpiry, e, hon], ?_⟩
    rw [enterStopped_quiet hch hslot]
    exact ⟨rfl, rfl, rfl, setTransport_head none (by rw [ht]; rfl) (by simp), rfl,
      setTransport_keeps_map none (.inl (by rw [ht]; rfl)), rfl⟩
  · exact ⟨s.setTransport (.play .running) none, by simp [exec, execEngageTimerExpiry, e, hon], rfl, rfl, rfl, rfl, rfl,
      setTransport_geom_same _ (by rw [ht]; rfl), setTransport_keeps_loop _ rfl, setTransport_vRef _ rfl,
      setTransport_keeps_map _ (.inr rfl), rfl⟩

/-! ## Motion requests that start without a push or a catch (R83 to R90, R178) -/

/-- A request without a popped entry. -/
def freshHeld (p : Port) (req : MotionReq) : Held := { req := req, port := p, entry := none }

/-- A request that passes its operand, state and lockout tests is judged in the state that stands (R85). -/
theorem motion_eq_judge {s : State} {p : Port} {req : MotionReq} (ho : s.operandTest req = none)
    (ha : s.admission (freshHeld p req) = none) (hr : req ≠ .returnBack) :
    s.motion p req = s.judge (freshHeld p req) := by
  have hp : s.popReturn (freshHeld p req) = some (freshHeld p req, s) := by
    cases req <;> first | rfl | exact absurd rfl hr
  unfold freshHeld at ha hp
  simp [State.motion, ho, State.motionFromStateTest, ha, hp, freshHeld]

/-- The state in which a motion is handed to its owner (R89): what the start ends and raises, and the new record. -/
def State.recorded (how : StartKind) (h : Held) (s : State) : State :=
  let u := (s.beginStart how).endLocate how.locateOutcome
  u.setRecord { kind := h.req.kind, source := h.port.source, level := u.portLevel h.port }

/-- A start of a kind that pushes no return entry and that no stop line catches is the hand-over, then the re-examination. -/
theorem start_eq_handOver {s : State} {how : StartKind} {h : Held} (hp : h.req.pushesReturn = false)
    (hc : h.req.kind.caught = false) : s.start how h = ((s.recorded how h).handOver how h).examineChase := by
  have push : ∀ u : State, u.pushReturn h.req = u := fun u => by simp [State.pushReturn, hp]
  have note : ∀ u : State, u.noteStart h.req.kind = u := fun u => by simp [State.noteStart, hc, State.raiseDue]
  simp [State.start, State.recorded, push, note]

theorem tryStart_of_check {s : State} {how : StartKind} {h : Held} (hc : s.startCheck h = none) :
    s.tryStart how h = (s.start how h, .ok) := by
  simp [State.tryStart, hc]

/-! ## THREAD (R5, R13, R65) -/

theorem threadTest_loaded {s : State} {a b : Nat} {ps pt : Profile} (ha : a ≤ 3) (hb : b ≤ 3)
    (hps : s.geom.profiles[a]? = some (some ps)) (hpt : s.geom.profiles[b]? = some (some pt)) :
    s.operandTest (.thread a b) = none := by
  have range : (0 : Int) ≤ a ∧ (a : Int) ≤ 3 ∧ (0 : Int) ≤ b ∧ (b : Int) ≤ 3 := by omega
  simp only [State.operandTest, State.threadTest, range]
  simp [slotProfile_eq, hps, hpt]

/-- Both reels bound and set up (R5, R13). -/
theorem thread_loaded {g : Geometry} {a b : Nat} {ps pt : Profile} (hps : g.profiles[a]? = some (some ps))
    (hpt : g.profiles[b]? = some (some pt)) :
    g.thread a b = { g with bound := ⟨some a, some b⟩, est := ⟨.setup ps, .setup pt⟩ } := by
  simp [Geometry.thread, Geometry.profile, Pair.get, hps, hpt]

/-- A change from UNTHREADED or FAULTED to THREADING reopens the windows alone (R8). -/
theorem onChange_thread {old : Transport} (g : Geometry) (h : old.isForced = true) :
    g.onChange old .threading = { g with est := g.est.map Estimator.reopen } := by
  cases old <;> first | rfl | cases h

/-- An entry to THREADING starts the threading timer (R38). -/
theorem setTransport_threadingTimer {s : State} (d : Option RestDest) (h : s.seq.transport ≠ .threading) :
    (s.setTransport .threading d).tension.threadingTimer = true := by
  have hs : s.seq.transport.sameState .threading = false := by
    cases ht : s.seq.transport <;> first | rfl | exact absurd ht h
  simp [Tension.onChange, hs]

/-- Overspeed counts at 0 stay so over every change of state (R58). -/
theorem onChange_overspeed {v : Speed} (h : v.overspeed = ⟨0, 0⟩) (old new : Transport) :
    (v.onChange old new).overspeed = ⟨0, 0⟩ := by
  simp only [Speed.onChange, apply_ite Speed.overspeed, Speed.force, Speed.clearMeasured, h, ite_self]

/-- What the start of a THREAD leaves (R5, R13, R58, R65). -/
theorem startThread_spec {s : State} {a b : Nat} {ps pt : Profile} (hs : s.seq.transport = .unthreaded)
    (hps : s.geom.profiles[a]? = some (some ps)) (hpt : s.geom.profiles[b]? = some (some pt)) :
    (s.startThread a b).geom = { s.geom with bound := ⟨some a, some b⟩, est := ⟨.setup ps, .setup pt⟩ }
      ∧ (s.startThread a b).seq.creepCancelled = false ∧ (s.startThread a b).tension.threadingTimer = true
      ∧ (s.startThread a b).speed.overspeed = ⟨0, 0⟩ := by
  unfold State.startThread
  refine ⟨?_, ?_, ?_, ?_⟩
  · rw [setTransport_geom, setSpeed_seq, setGeom_seq, hs, onChange_thread _ rfl]
    simp only [Int.toNat_natCast, setSpeed_geom, setGeom_geom, thread_loaded hps hpt]
    rfl
  · simp [State.setTransport, Sequencer.onChange, hs]
  · exact setTransport_threadingTimer _ (by simp [hs])
  · exact onChange_overspeed rfl _ _

/-- The start of a THREAD leaves the other units alone (R61). -/
theorem startThread_frame (s : State) (a b : Int) :
    (s.startThread a b).arb = s.arb ∧ (s.startThread a b).marks = s.marks ∧ (s.startThread a b).ports = s.ports
      ∧ (s.startThread a b).prot.report = s.prot.report ∧ (s.startThread a b).due = s.due := ⟨rfl, rfl, rfl, rfl, rfl⟩

/-! ## CLEAR_FAULT (R11, R39, R79, R186) -/

/-- The integrator and the three counts of an axis stand at 0 (R39). -/
structure Axis.Cleared (a : Axis) : Prop where
  integ : a.integ = 0
  sat : a.satCount = 0
  low : a.lowCount = 0
  high : a.highCount = 0

/-- Cleared axes stay cleared over every change of state (R33, R36, R37). -/
theorem onChange_cleared {t : Tension} (h : ∀ r, (t.axes.get r).Cleared) (old new : Transport) (r : Reel) :
    ((t.onChange old new).axes.get r).Cleared := by
  obtain ⟨integ, sat, low, high⟩ := h r
  unfold Tension.onChange
  split_ifs <;>
    constructor <;> simp [integ, sat, low, high, Axis.force, Axis.clearArmCounts, Axis.reset]

/-- Reject counts at 0 stay so over every change of state (R8, R11, R15). -/
theorem onChange_reject {g : Geometry} (h : ∀ r, (g.est.get r).reject = 0) (old new : Transport) (r : Reel) :
    ((g.onChange old new).est.get r).reject = 0 := by
  have hr := h r
  unfold Geometry.onChange
  cases r <;> split_ifs <;>
    simp_all [Geometry.leaveMeasuring, Geometry.unthread, Estimator.reopen, Estimator.reset, Pair.get, Pair.map]

/-- A capstan saturation count at 0 stays so over every change of state (R55). -/
theorem onChange_satCount {v : Speed} (h : v.loop.satCount = 0) (old new : Transport) :
    (v.onChange old new).loop.satCount = 0 := by
  simp only [Speed.onChange, apply_ite Speed.loop, apply_ite CapstanLoop.satCount, Speed.force, Speed.clearMeasured,
    CapstanLoop.reset, h, ite_self]

/-- The qualification state of a part: every count and integrator that CLEAR_FAULT sets to 0 (R11, R39, R54, R58, R176). -/
structure Qualified (s : State) : Prop where
  axes : ∀ r, (s.tension.axes.get r).Cleared
  reject : ∀ r, (s.geom.est.get r).reject = 0
  overspeed : s.speed.overspeed = ⟨0, 0⟩
  loop : s.speed.loop.satCount = 0
  tapeOut : s.prot.tapeOut = 0

theorem clearQualification_qualified (s : State) : Qualified s.clearQualification where
  axes r := by constructor <;> simp [State.clearQualification, Axis.clearFault]
  reject r := by simp [State.clearQualification, Geometry.clearFault]
  overspeed := rfl
  loop := rfl
  tapeOut := rfl

theorem setTransport_qualified {s : State} (h : Qualified s) (new : Transport) (d : Option RestDest) :
    Qualified (s.setTransport new d) where
  axes := onChange_cleared h.axes _ _
  reject := onChange_reject h.reject _ _
  overspeed := onChange_overspeed h.overspeed _ _
  loop := onChange_satCount h.loop _ _
  tapeOut := by simp [State.setTransport, h.tapeOut]

theorem enterUnthreaded_qualified {s : State} (h : Qualified s) : Qualified s.enterUnthreaded := by
  obtain ⟨axes, reject, overspeed, loop, tapeOut⟩ := setTransport_qualified h .unthreaded none
  constructor <;> simpa [State.enterUnthreaded]

/-- CLEAR_FAULT with the switch closed and the head length defined re-tensions (R79). -/
theorem startClearFault_retension {s : State} (ht : s.tapePath = .closed) (hh : s.geom.head ≠ none) :
    s.startClearFault = s.clearQualification.setTransport .threading none := by
  have hsome : s.geom.head.isSome = true := Option.isSome_iff_ne_none.mpr hh
  simp [State.startClearFault, State.clearQualification, Geometry.clearFault, ht, hsome]

/-- A re-tensioning keeps the coordinate, C and the mode of each reel, the map, the marks and the ports (R79). -/
theorem retension_spec {s t : State} (hs : s.seq.transport = .faulted)
    (ht : t = s.clearQualification.setTransport .threading none) :
    t.tension.threadingTimer = true ∧ t.geom.head = s.geom.head
      ∧ (∀ r, (t.geom.est.get r).c = (s.geom.est.get r).c ∧ (t.geom.est.get r).mode = (s.geom.est.get r).mode)
      ∧ t.map = s.map ∧ t.arb = s.arb ∧ t.marks = s.marks ∧ t.ports = s.ports := by
  have state : s.clearQualification.seq.transport = .faulted := hs
  have geom : t.geom = { s.geom.clearFault with est := s.geom.clearFault.est.map Estimator.reopen } := by
    rw [ht, setTransport_geom, onChange_thread _ (by rw [state]; rfl)]
    rfl
  subst ht
  refine ⟨setTransport_threadingTimer _ (by rw [state]; simp), by rw [geom]; rfl, fun r => ?_,
    setTransport_keeps_map _ (.inl (by rw [state]; rfl)), rfl, rfl, rfl⟩
  · rw [geom]
    simp [Geometry.clearFault, Estimator.reopen]

/-- CLEAR_FAULT otherwise ends in UNTHREADED (R79). -/
theorem startClearFault_unthread {s : State} (h : s.tapePath = .opened ∨ s.geom.head = none) :
    s.startClearFault = s.clearQualification.enterUnthreaded := by
  unfold State.startClearFault
  rw [if_neg]
  rintro ⟨ht, hh⟩
  rcases h with h | h
  · exact absurd (h.symm.trans ht) (by simp)
  · simp [State.clearQualification, Geometry.clearFault, h] at hh

theorem startClearFault_qualified (s : State) : Qualified s.startClearFault := by
  unfold State.startClearFault
  dsimp only
  split
  · exact setTransport_qualified (clearQualification_qualified s) _ _
  · exact enterUnthreaded_qualified (clearQualification_qualified s)

theorem startClearFault_frame (s : State) :
    s.startClearFault.due = s.due ∧ s.startClearFault.ports.params = s.ports.params := by
  unfold State.startClearFault
  dsimp only
  split
  · exact ⟨rfl, rfl⟩
  · constructor <;> simp [State.enterUnthreaded]

/-- What an entry to UNTHREADED from outside it leaves (R1, R62, R81, R84, R105, R126). -/
theorem enterUnthreaded_spec {s : State} (h : s.seq.transport ≠ .unthreaded) :
    s.enterUnthreaded.seq.transport = .unthreaded ∧ s.enterUnthreaded.geom.head = none
      ∧ s.enterUnthreaded.map.spans = [] ∧ s.enterUnthreaded.arb = { s.arb with active := none, returns := [] }
      ∧ s.enterUnthreaded.due = s.due ∧ s.enterUnthreaded.ports.params = s.ports.params
      ∧ s.enterUnthreaded.seq.outputs
        = { driveEnable := false, brakesReleased := false, pinchDown := false, lifterOut := false, grant := false } := by
  have hs : s.seq.transport.sameState .unthreaded = false := by
    cases hst : s.seq.transport <;> first | rfl | exact absurd hst h
  refine ⟨?_, ?_, ?_, ?_, ?_, ?_, ?_⟩
  · simp [State.enterUnthreaded]
  · simp [State.enterUnthreaded, Geometry.onChange, hs, Geometry.unthread]
  · simp [State.enterUnthreaded, MapUnit.flush]
  · simp only [State.enterUnthreaded, mapEvent_arb]
    rfl
  · simp [State.enterUnthreaded]
  · simp [State.enterUnthreaded]
  · simp only [State.enterUnthreaded, mapEvent_seq]
    rfl

/-! ## What a start leaves before the hand-over (R88 to R90, R100) -/

section Recorded

variable (s : State) (how : StartKind) (h : Held)

@[simp] theorem beginStart_geom : (s.beginStart how).geom = s.geom := by
  cases how <;> simp [State.beginStart, State.breakChase]
@[simp] theorem beginStart_speed : (s.beginStart how).speed = s.speed := by
  cases how <;> simp [State.beginStart, State.breakChase]
@[simp] theorem beginStart_seq : (s.beginStart how).seq = s.seq := by
  cases how <;> simp [State.beginStart, State.breakChase]
@[simp] theorem beginStart_map : (s.beginStart how).map = s.map := by
  cases how <;> simp [State.beginStart, State.breakChase]
@[simp] theorem beginStart_marks : (s.beginStart how).marks = s.marks := by
  cases how <;> simp [State.beginStart, State.breakChase]
@[simp] theorem beginStart_due : (s.beginStart how).due = s.due := by
  cases how <;> simp [State.beginStart, State.breakChase]
@[simp] theorem beginStart_prot : (s.beginStart how).prot = s.prot := by
  cases how <;> simp [State.beginStart, State.breakChase]
@[simp] theorem beginStart_tapePath : (s.beginStart how).tapePath = s.tapePath := by
  cases how <;> simp [State.beginStart, State.breakChase]
@[simp] theorem beginStart_params : (s.beginStart how).ports.params = s.ports.params := by
  cases how <;> simp [State.beginStart, State.breakChase]

@[simp] theorem recorded_geom : (s.recorded how h).geom = s.geom := by simp [State.recorded]
@[simp] theorem recorded_speed : (s.recorded how h).speed = s.speed := by simp [State.recorded]
@[simp] theorem recorded_seq : (s.recorded how h).seq = s.seq := by simp [State.recorded]
@[simp] theorem recorded_map : (s.recorded how h).map = s.map := by simp [State.recorded]
@[simp] theorem recorded_marks : (s.recorded how h).marks = s.marks := by simp [State.recorded]
@[simp] theorem recorded_due : (s.recorded how h).due = s.due := by simp [State.recorded]
@[simp] theorem recorded_prot : (s.recorded how h).prot = s.prot := by simp [State.recorded]
@[simp] theorem recorded_tapePath : (s.recorded how h).tapePath = s.tapePath := by simp [State.recorded]
@[simp] theorem recorded_ports : (s.recorded how h).ports = (s.beginStart how).ports := by simp [State.recorded]

/-- The new record, at the level of its port (R84). -/
theorem recorded_arb : (s.recorded how h).arb = { (s.beginStart how).arb with
    active := some { kind := h.req.kind, source := h.port.source, level := s.portLevel h.port } } := by
  have level : ((s.beginStart how).endLocate how.locateOutcome).portLevel h.port = s.portLevel h.port := by
    cases h.port <;> simp [State.portLevel, State.param]
  simp [State.recorded, level, State.setRecord, State.setActive]

end Recorded

theorem dropPending_arb (s : State) : s.dropPending.arb = { s.arb with slot := none } := by
  obtain ⟨_, _, _, _, ⟨_, slot, _, _, _⟩, _, _, _, _, _, _, _, _, _⟩ := s
  cases slot <;> rfl

/-- A break leaves the protocol after the chase, nothing pending, and CHASE_BROKEN in both sets (R93, R100). -/
theorem beginStart_break (s : State) :
    (s.beginStart .breakChase).arb = { s.arb with chase := s.arb.afterChase, slot := none }
      ∧ ∀ p, ((s.beginStart .breakChase).ports.port p).has .chaseBroken = true := by
  refine ⟨dropPending_arb s.breakChase, fun p => dropPending_has ?_⟩
  simp [State.breakChase, raise_has]

/-! ## UNTHREAD (R80, R93, R100) -/

/-- An UNTHREAD from the panel passes the lockout test whatever the level (R83). -/
theorem admission_unthread {s : State} (hv : MotionReq.validIn .unthread s.seq.transport = true) :
    s.admission (freshHeld .panel .unthread) = none := by
  simp [State.admission, freshHeld, hv, Held.chaseRefuses, State.lockedOut]

theorem motion_unthread {s : State} (hv : MotionReq.validIn .unthread s.seq.transport = true) :
    s.motion .panel .unthread = s.judge (freshHeld .panel .unthread) :=
  motion_eq_judge rfl (admission_unthread hv) (by simp)

/-- No waiting chase is granted over an UNTHREAD (R95). -/
theorem examineChase_of_unthread {s : State} {m : Motion} (ha : s.arb.active = some m) (hk : m.kind = .unthread)
    (ht : s.seq.transport ≠ .stopped) : s.examineChase = s := by
  simp [State.examineChase, State.chaseGrantable, State.roomForChase, ha, hk, ht]

/-- UNTHREAD carried out keeps its record and does not end in STOPPED (R80). -/
theorem startUnthread_record (s : State) :
    s.startUnthread.arb.active = s.arb.active ∧ s.startUnthread.seq.transport ≠ .stopped := by
  unfold State.startUnthread
  split
  case h_5 => split <;> simp [State.enterUnthreading, dropPending_arb]
  all_goals simp [State.enterUnthreading, dropPending_arb]

theorem tryStart_unthread (s : State) (how : StartKind) :
    s.tryStart how (freshHeld .panel .unthread)
      = ((s.recorded how (freshHeld .panel .unthread)).startUnthread, .ok) := by
  obtain ⟨active, moving⟩ := startUnthread_record (s.recorded how (freshHeld .panel .unthread))
  rw [recorded_arb] at active
  rw [tryStart_of_check rfl, start_eq_handOver rfl rfl]
  exact congrArg (·, Status.ok) (examineChase_of_unthread active rfl moving)

/-- What an entry to UNTHREADING leaves (R80, R93). -/
theorem enterUnthreading_spec {s : State} (hm : s.seq.transport.isMeasuring = false)
    (hr : s.seq.transport.reading = false) :
    s.enterUnthreading.seq.transport = .unthreading ∧ s.enterUnthreading.geom.head = s.geom.head
      ∧ s.enterUnthreading.arb = { s.arb with slot := none } ∧ s.enterUnthreading.map = s.map
      ∧ s.enterUnthreading.marks = s.marks ∧ s.enterUnthreading.due = s.due
      ∧ s.enterUnthreading.seq.outputs.grant = false := by
  have head := setTransport_head (s := s) (new := .unthreading) none hm (by simp)
  have map := setTransport_keeps_map (s := s) (new := .unthreading) none (.inl hr)
  refine ⟨?_, ?_, ?_, ?_, ?_, ?_, ?_⟩
  · simp [State.enterUnthreading]
  · rw [State.enterUnthreading, dropPending_geom, head]
  · rw [State.enterUnthreading, dropPending_arb]
    rfl
  · rw [State.enterUnthreading, dropPending_map, map]
  · simp [State.enterUnthreading]
  · simp [State.enterUnthreading]
  · rw [State.enterUnthreading, dropPending_seq]
    rfl

/-- The held request of an entry to UNTHREADING is dropped on its own port (R93). -/
theorem enterUnthreading_ports (s : State) :
    (s.arb.slot = none → s.enterUnthreading.ports = s.ports)
      ∧ ∀ h, s.arb.slot = some h → (s.enterUnthreading.ports.port h.port).has .pendingDropped = true := by
  constructor
  · intro hs
    simp [State.enterUnthreading, State.dropPending, hs]
  · intro h hs
    simp [State.enterUnthreading, State.dropPending, hs, raiseOn_has]

/-- UNTHREAD against a motion, from every state that halts for it (R80). -/
theorem startUnthread_halts {s : State} (h : s.seq.transport.watchesLeader = true ∨ (∃ p, s.seq.transport = .locate p)
    ∨ s.seq.transport = .halting) : s.startUnthread = s.setTransport .halting (some .unthreading) := by
  unfold State.startUnthread
  cases ht : s.seq.transport <;> simp_all [Transport.watchesLeader]

/-- UNTHREAD from a chase: at once from PARKED at rest, else by a halt (R80). -/
theorem startUnthread_chase {s : State} {p : ChasePhase} (h : s.seq.transport = .chase p) :
    s.startUnthread = if p = .parked ∧ s.speed.vRef = 0 then s.enterUnthreading
      else s.setTransport .halting (some .unthreading) := by
  unfold State.startUnthread
  cases p <;> simp [h]

/-- The UNTHREAD of the panel, as it is judged. -/
abbrev panelUnthread : Held := freshHeld .panel .unthread

theorem motion_unthread_rest {s : State}
    (h : s.seq.transport = .threading ∨ s.seq.transport = .settling ∨ s.seq.transport = .stopped) :
    s.motion .panel .unthread = ((s.recorded .fresh panelUnthread).enterUnthreading, .ok) := by
  have start : (s.recorded .fresh panelUnthread).startUnthread = (s.recorded .fresh panelUnthread).enterUnthreading := by
    unfold State.startUnthread
    rw [recorded_seq]
    rcases h with h | h | h <;> rw [h]
  rw [motion_unthread (by rcases h with h | h | h <;> rw [h] <;> rfl), ← start, ← tryStart_unthread]
  rcases h with h | h | h <;> simp [State.judge, h, freshHeld]

theorem motion_unthread_measuring {s : State} {p : MeasurePhase} (h : s.seq.transport = .measuring p) :
    s.motion .panel .unthread
      = ((s.recorded .fresh panelUnthread).setTransport (.measuring .creepStop) (some .unthreading), .ok) := by
  have start : (s.recorded .fresh panelUnthread).startUnthread
      = (s.recorded .fresh panelUnthread).setTransport (.measuring .creepStop) (some .unthreading) := by
    simp [State.startUnthread, h]
  rw [motion_unthread (by rw [h]; rfl), ← start, ← tryStart_unthread]
  simp [State.judge, h, freshHeld]

/-- The states in which UNTHREAD is judged against the active motion (R86 to R88). -/
theorem motion_unthread_active {s : State} (h : s.seq.transport.watchesLeader = true
    ∨ (∃ p, s.seq.transport = .locate p) ∨ (s.seq.transport = .halting ∧ s.arb.chase ≠ .starting)) :
    s.motion .panel .unthread = s.judgeActive panelUnthread := by
  have hv : MotionReq.validIn .unthread s.seq.transport = true := by
    cases ht : s.seq.transport <;> simp_all [Transport.watchesLeader, MotionReq.validIn]
  rw [motion_unthread hv]
  cases ht : s.seq.transport <;> simp_all [Transport.watchesLeader, State.judge, freshHeld]

/-- An UNTHREAD that may start against the active motion halts it (R80, R88). -/
theorem judgeActive_unthread_halts {s : State} {m : Motion} (hm : s.arb.active = some m)
    (ht : s.seq.transport.watchesLeader = true ∨ (∃ p, s.seq.transport = .locate p) ∨ s.seq.transport = .halting)
    (h : m.source = .panel ∨ m.level < s.portLevel .panel) :
    s.judgeActive panelUnthread
      = ((s.recorded (if m.source = .panel then .replace else .preempt) panelUnthread).setTransport .halting
          (some .unthreading), .ok) := by
  rw [← startUnthread_halts (by rw [recorded_seq]; exact ht), ← tryStart_unthread]
  by_cases hp : m.source = .panel
  · simp [State.judgeActive, hm, hp, freshHeld, Port.source]
  · simp [State.judgeActive, hm, hp, freshHeld, Port.source, h.resolve_left hp]

theorem judgeActive_busy {s : State} {m : Motion} {h : Held} (hm : s.arb.active = some m)
    (hs : m.source ≠ h.port.source) (hl : s.portLevel h.port ≤ m.level) : s.judgeActive h = (s, .busy) := by
  simp [State.judgeActive, hm, hs, not_lt.mpr hl]

/-- A panel UNTHREAD above the record's level breaks a chase (R80, R100). -/
theorem motion_unthread_chase {s : State} {m : Motion} {p : ChasePhase} (hm : s.arb.active = some m)
    (ht : s.seq.transport = .chase p) (hl : m.level < s.portLevel .panel) :
    s.motion .panel .unthread = ((s.recorded .breakChase panelUnthread).startUnthread, .ok) := by
  rw [motion_unthread (by rw [ht]; rfl), ← tryStart_unthread]
  simp [State.judge, ht, freshHeld, State.panelInChase, State.recordLevel, hm, hl]

/-! ## THREAD and CLEAR_FAULT as requests (R65, R79) -/

/-- THREAD in UNTHREADED with loaded slots: NO_TAPE with the switch open, else the start (R65). -/
theorem motion_thread {s : State} {a b : Nat} {ps pt : Profile} (hs : s.seq.transport = .unthreaded) (ha : a ≤ 3)
    (hb : b ≤ 3) (hps : s.geom.profiles[a]? = some (some ps)) (hpt : s.geom.profiles[b]? = some (some pt))
    (hl : paramOf s.ports.params Param.lockoutLevel ≤ paramOf s.ports.params Param.panelLevel) :
    s.motion .panel (.thread a b)
      = if s.tapePath = .opened then (s, .noTape)
        else ((s.recorded .fresh (freshHeld .panel (.thread a b))).startThread a b, .ok) := by
  have admitted : s.admission (freshHeld .panel (.thread a b)) = none :=
    admission_passes (by rw [hs]; rfl) (by rw [hs]; rfl) hl
  rw [motion_eq_judge (threadTest_loaded ha hb hps hpt) admitted (by simp)]
  have judged : s.judge (freshHeld .panel (.thread a b)) = s.tryStart .fresh (freshHeld .panel (.thread a b)) := by
    simp [State.judge, hs]
  rw [judged]
  split
  · next ht => simp [State.tryStart, State.startCheck, freshHeld, ht]
  · next ht =>
    rw [tryStart_of_check (by simp [State.startCheck, freshHeld, ht]), start_eq_handOver rfl rfl, examineChase_of_state]
    · rfl
    · simp [State.handOver, freshHeld, State.startThread]
    · rfl

/-- CLEAR_FAULT in FAULTED is its start (R79). -/
theorem motion_clearFault {s : State} (hs : s.seq.transport = .faulted)
    (hl : paramOf s.ports.params Param.lockoutLevel ≤ paramOf s.ports.params Param.panelLevel) :
    s.motion .panel .clearFault
      = ((s.recorded .fresh (freshHeld .panel .clearFault)).startClearFault, .ok) := by
  have admitted : s.admission (freshHeld .panel .clearFault) = none :=
    admission_passes (by rw [hs]; rfl) (by rw [hs]; rfl) hl
  have judged : s.judge (freshHeld .panel .clearFault) = s.tryStart .fresh (freshHeld .panel .clearFault) := by
    simp [State.judge, hs]
  have ends : ∀ u : State, u.startClearFault.examineChase = u.startClearFault := by
    intro u
    unfold State.startClearFault
    dsimp only
    split
    · exact examineChase_of_state (by simp) rfl
    · exact examineChase_of_state (by simp [State.enterUnthreaded]) (by simp [State.enterUnthreaded]; rfl)
  rw [motion_eq_judge rfl admitted (by simp), judged, tryStart_of_check rfl, start_eq_handOver rfl rfl]
  exact congrArg (·, Status.ok) (ends _)

/-- Settles O55. -/
theorem threadClearFaultAndUnthreadAct : Obligations.ThreadClearFaultAndUnthreadAct := by
  refine ⟨fun a b ps pt s hs ha hb hps hpt hl => ?_, fun s hs hl => ?_,
    fun s => ⟨fun hs => ?_, fun hs => ?_, fun m hm => ⟨fun hs => ⟨fun hp hlev => ?_, fun hor => ?_⟩,
      fun p hs hch hlev => ?_⟩⟩⟩
  · rw [motion_thread hs ha hb hps hpt hl]
    refine ⟨fun ht => if_pos ht, fun ht => ⟨_, if_neg (by rw [ht]; simp), ?_⟩⟩
    obtain ⟨geom, creep, timer, overspeed⟩ :=
      startThread_spec (s := s.recorded .fresh (freshHeld .panel (.thread a b))) (a := a) (b := b) (ps := ps) (pt := pt)
        (by rw [recorded_seq, hs]) (by rw [recorded_geom, hps]) (by rw [recorded_geom, hpt])
    obtain ⟨arb, marks, ports, report, due⟩ :=
      startThread_frame (s.recorded .fresh (freshHeld .panel (.thread a b))) a b
    rw [arb, recorded_arb, geom, recorded_geom, marks, recorded_marks, ports, recorded_ports, report, recorded_prot, due,
      recorded_due]
    exact ⟨rfl, rfl, rfl, rfl, rfl, creep, timer, overspeed, rfl, rfl, rfl, rfl, rfl, rfl⟩
  · refine ⟨_, motion_clearFault hs hl, ?_⟩
    obtain ⟨axes, reject, overspeed, loop, tapeOut⟩ :=
      startClearFault_qualified (s.recorded .fresh (freshHeld .panel .clearFault))
    obtain ⟨due, params⟩ := startClearFault_frame (s.recorded .fresh (freshHeld .panel .clearFault))
    refine ⟨fun r => ⟨(axes r).integ, (axes r).sat, (axes r).low, (axes r).high, reject r⟩, overspeed, loop, tapeOut,
      by rw [params, recorded_ports]; rfl, by rw [due, recorded_due], fun ht hh => ?_, fun hor => ?_⟩
    · rw [startClearFault_retension (by rw [recorded_tapePath, ht]) (by rw [recorded_geom]; exact hh)]
      obtain ⟨timer, head, est, map, arb, marks, ports⟩ := retension_spec
        (s := s.recorded .fresh (freshHeld .panel .clearFault)) (by rw [recorded_seq, hs]) rfl
      rw [recorded_geom] at head est
      exact ⟨rfl, timer, head, est, rfl, arb.trans (recorded_arb ..), map.trans (recorded_map ..),
        marks.trans (recorded_marks ..), ports.trans (recorded_ports ..)⟩
    · rw [startClearFault_unthread (by rw [recorded_tapePath, recorded_geom]; exact hor)]
      obtain ⟨state, head, spans, arb, -, -, outputs⟩ := enterUnthreaded_spec
        (s := (s.recorded .fresh (freshHeld .panel .clearFault)).clearQualification)
        (by simp [State.clearQualification, hs])
      refine ⟨state, head, spans, ?_, outputs⟩
      rw [arb]
      simp [State.clearQualification, recorded_arb, State.beginStart]
  · obtain ⟨hm, hr⟩ : s.seq.transport.isMeasuring = false ∧ s.seq.transport.reading = false := by
      rcases hs with h | h | h <;> rw [h] <;> exact ⟨rfl, rfl⟩
    obtain ⟨state, head, arb, map, marks, due, -⟩ := enterUnthreading_spec (s := s.recorded .fresh panelUnthread)
      (by rw [recorded_seq, hm]) (by rw [recorded_seq, hr])
    obtain ⟨free, dropped⟩ := enterUnthreading_ports (s.recorded .fresh panelUnthread)
    rw [recorded_arb] at arb free dropped
    exact ⟨_, motion_unthread_rest hs, state, head.trans (by rw [recorded_geom]), arb, dropped,
      fun h => (free h).trans (recorded_ports ..), marks.trans (recorded_marks ..), map.trans (recorded_map ..),
      due.trans (recorded_due ..)⟩
  · obtain ⟨p, hp⟩ : ∃ p, s.seq.transport = .measuring p := by
      cases h : s.seq.transport <;> simp_all [Transport.isMeasuring]
    refine ⟨_, motion_unthread_measuring hp, rfl, rfl, ?_, recorded_ports s .fresh panelUnthread,
      recorded_marks s .fresh panelUnthread, recorded_due s .fresh panelUnthread, recorded_arb s .fresh panelUnthread⟩
    rw [setTransport_geom_same _ (by rw [recorded_seq, hp]; rfl), recorded_geom]
  · rw [motion_unthread_active hs, judgeActive_busy (h := panelUnthread) hm hp hlev]
  · have halts : s.seq.transport.watchesLeader = true ∨ (∃ p, s.seq.transport = .locate p)
        ∨ s.seq.transport = .halting := hs.imp_right (Or.imp_right And.left)
    refine ⟨_, (motion_unthread_active hs).trans (judgeActive_unthread_halts hm halts hor), rfl, rfl,
      (setTransport_vRef _ rfl).trans (by rw [recorded_speed]), recorded_marks s _ panelUnthread,
      recorded_due s _ panelUnthread, fun hp => ?_,
      fun hp k => ?_, fun hh => ?_, ?_⟩
    · show (s.recorded _ panelUnthread).ports = _
      rw [recorded_ports, if_pos hp]
      rfl
    · show ((s.recorded _ panelUnthread).ports.port k).has _ = _
      rw [recorded_ports, if_neg hp]
      simp [State.beginStart, raise_has]
    · simp [Speed.onChange, hh]
    · refine (recorded_arb ..).trans ?_
      split <;> rfl
  · obtain ⟨broken_arb, broken⟩ := beginStart_break s
    have after : s.arb.afterChase = if s.arb.chaseLine then .spent else .idle := by simp [Arbiter.afterChase, hch]
    have arb := recorded_arb s .breakChase panelUnthread
    rw [broken_arb, after] at arb
    have start := startUnthread_chase (s := s.recorded .breakChase panelUnthread) (by rw [recorded_seq, hs])
    rw [recorded_speed] at start
    refine ⟨_, motion_unthread_chase hm hs hlev, ?_⟩
    rw [start]
    split
    · next hrest =>
      obtain ⟨state, head, slot, -, marks, due, grant⟩ := enterUnthreading_spec
        (s := s.recorded .breakChase panelUnthread) (by rw [recorded_seq, hs]; rfl)
        (by rw [recorded_seq, hs, hrest.1]; rfl)
      obtain ⟨free, -⟩ := enterUnthreading_ports (s.recorded .breakChase panelUnthread)
      rw [arb] at slot free
      refine ⟨fun k => ?_, fun _ _ => state, fun h => (h.elim (· hrest.1) (· hrest.2)).elim, grant,
        marks.trans (recorded_marks ..), head.trans (by rw [recorded_geom]), due.trans (recorded_due ..), slot⟩
      rw [free rfl, recorded_ports]
      exact broken k
    · next hmove =>
      refine ⟨fun k => ?_, fun hp hv => absurd ⟨hp, hv⟩ hmove, fun _ => ⟨rfl, rfl⟩, rfl,
        recorded_marks s .breakChase panelUnthread, ?_, recorded_due s .breakChase panelUnthread, arb⟩
      · show ((s.recorded _ panelUnthread).ports.port k).has _ = _
        rw [recorded_ports]
        exact broken k
      · rw [setTransport_head _ (by rw [recorded_seq, hs]; rfl) (by simp), recorded_geom]

end Sys2Proof.Machine

/-! # The tension servo family

The parameters' ranges and the period of one axis first, then the invariant of the drives, which every step keeps, and the
three statements about one AXIS_SERVO_PERIOD. -/

namespace Sys2Proof.Machine

/-! ## The parameters stay in their ranges (R202) -/

/-- A parameter written with the value that SET_PARAMETER stores for it stays in its range, and so do the others. -/
theorem ParamsInRange.set {ps : List Int} (h : ParamsInRange ps) {n : Nat} {row : ParamRow}
    (hn : paramRows[n]? = some row) (v : Int) : ParamsInRange (ps.set n (paramStored n row v)) := by
  obtain ⟨len, range, play, settle⟩ := h
  have hlt : n < ps.length := len ▸ (List.getElem?_eq_some_iff.mp hn).1
  refine ⟨by rw [List.length_set, len], fun k row' hk => ?_, ?_, ?_⟩
  · rw [paramOf_set ps n k _ hlt]
    split
    · next e =>
      subst e
      obtain rfl : row = row' := Option.some.inj (hn.symm.trans hk)
      exact paramStored_range k row v hk
    · exact range k row' hk
  · rw [paramOf_set ps n _ _ hlt]
    split
    · next e => rw [← e, paramStored, if_pos rfl]; split <;> simp
    · exact play
  · rw [paramOf_set ps n _ _ hlt]
    split
    · next e => rw [← e, paramStored, if_neg (by decide), if_pos rfl]; split <;> simp
    · exact settle

theorem paramOf_paramDefaults (mode0 mode1 : Bool) {n : Nat} {row : ParamRow} (hn : paramRows[n]? = some row) :
    paramOf (paramDefaults mode0 mode1) n = paramDefault mode0 mode1 n row := by
  simp [paramOf, paramDefaults, hn]

/-- Both settings of the mode pins give defaults in range (R63, R202). -/
theorem paramDefaults_inRange (mode0 mode1 : Bool) : ParamsInRange (paramDefaults mode0 mode1) := by
  refine ⟨by simp [paramDefaults], fun n row hn => ?_, ?_, ?_⟩
  rotate_left
  · rw [paramOf_paramDefaults mode0 mode1 (row := ⟨1905, 3810, 3810⟩) rfl]
    cases mode0 <;> simp [paramDefault]
  · rw [paramOf_paramDefaults mode0 mode1 (row := ⟨250, 2000, 250⟩) rfl]
    cases mode1 <;> simp [paramDefault, Param.settleTime, Param.playSpeed]
  rw [paramOf_paramDefaults mode0 mode1 hn]
  unfold paramDefault
  have table : ∀ row ∈ paramRows, row.lo ≤ row.default ∧ row.default ≤ row.hi := by decide
  split
  · next e =>
    obtain rfl : (⟨1905, 3810, 3810⟩ : ParamRow) = row := Option.some.inj (by rw [← hn, e]; rfl)
    cases mode0 <;> decide
  · split
    · next e =>
      obtain rfl : (⟨250, 2000, 250⟩ : ParamRow) = row := Option.some.inj (by rw [← hn, e]; rfl)
      cases mode1 <;> decide
    · exact table row (List.mem_of_getElem? hn)

theorem reset_params (s : State) (l : ResetLevels) :
    ({ State.resetWith l with draws := s.draws, pending := s.pending } : State).ports.params
      = paramDefaults l.mode0High l.mode1High := by
  simp only [State.resetWith]

/-- Every move keeps the parameters in their ranges: a move that writes one writes a stored value, and a reset writes the
defaults. -/
theorem Move.paramsInRange {s t : State} (h : Move s t) (hs : ParamsInRange s.ports.params) :
    ParamsInRange t.ports.params := by
  cases h with
  | aside h => rw [h.params]; exact hs
  | learn r => rw [mapEvent_params]; exact hs
  | flush => rw [mapEvent_params]; exact hs
  | param n row v hn => rw [writeParam_params]; exact hs.set hn v
  | reset l => exact (reset_params s l).symm ▸ paramDefaults_inRange l.mode0High l.mode1High
  | _ => exact hs

theorem row_lo_nonneg {n : Nat} {row : ParamRow} (hn : paramRows[n]? = some row) : 0 ≤ row.lo := by
  have table : ∀ row ∈ paramRows, 0 ≤ row.lo := by decide
  exact table row (List.mem_of_getElem? hn)

theorem paramStored_nonneg {n : Nat} {row : ParamRow} (hn : paramRows[n]? = some row) (v : Int) :
    0 ≤ paramStored n row v :=
  (row_lo_nonneg hn).trans (paramStored_range n row v hn).1

/-- No parameter's range goes below 0; a number beyond the table reads 0. -/
theorem ParamsInRange.nonneg {ps : List Int} (h : ParamsInRange ps) (n : Nat) : 0 ≤ paramOf ps n := by
  obtain ⟨len, range, -, -⟩ := h
  cases hn : paramRows[n]? with
  | some row => exact (row_lo_nonneg hn).trans (range n row hn).1
  | none =>
    rw [paramOf, List.getD_eq_default _ _ (by rw [len]; exact List.getElem?_eq_none_iff.mp hn)]

/-- Writing a parameter clamps the held word of the axis whose drive limit it is, and no other (R31). -/
theorem writeParam_axis (s : State) (n : Nat) (v : Int) (r : Reel) :
    (s.writeParam n v).tension.axes.get r
      = if n = r.pick Param.supplyLimit Param.takeupLimit then (s.tension.axes.get r).clampWord v
        else s.tension.axes.get r := by
  unfold State.writeParam
  dsimp only
  split_ifs <;> cases r <;> simp_all [Reel.pick, Pair.modify, Pair.set, Pair.get]

/-- Writing a parameter clamps the capstan word when it is the capstan drive limit (R53). -/
theorem writeParam_loop (s : State) (n : Nat) (v : Int) :
    (s.writeParam n v).speed.loop
      = if n = Param.capstanLimit then { s.speed.loop with word := clampTo (-v) v s.speed.loop.word }
        else s.speed.loop := by
  unfold State.writeParam
  dsimp only
  split_ifs <;> simp_all

/-! ## One period of an axis (R24 to R31, R33, R36, R37) -/

section AxisPeriod

variable {x : AxisInputs} {t : Transport} {arm : Int} {a : Axis}

/-- In a forced state the arm reading alone is taken (R33). -/
theorem period_forced (h : t.isForced = true) : x.period t arm a = ({ a with arm := arm }, .nothing) := if_pos h

/-- In the counting states the low and high counts follow the word (R36, R37). -/
theorem period_counting (hf : t.isForced = false) (hc : t.counting = true) {d : Axis × AxisRaised}
    (hd : x.drive (t == .unthreading) { a with arm := arm } = d) :
    x.period t arm a
      = ((d.1.countArm x.params).1,
          { d.2 with low := (d.1.countArm x.params).2.1, high := (d.1.countArm x.params).2.2 }) := by
  subst hd
  simp [AxisInputs.period, hf, hc]

/-- In THREADING and UNTHREADING the period is the word part alone (R36, R37). -/
theorem period_not_counting (hf : t.isForced = false) (hc : t.counting = false) :
    x.period t arm a = x.drive (t == .unthreading) { a with arm := arm } := by
  simp [AxisInputs.period, hf, hc]

/-- A released axis holds its word (R25). -/
theorem drive_released (u : Bool) (h : a.released = true) : x.drive u a = (a, .nothing) := if_pos h

/-- In UNTHREADING the axis is released when T comes to 0 (R25). -/
theorem drive_releases (hr : a.released = false) (h0 : x.ramp a = 0) :
    x.drive true a = ({ a with tension := 0 }.release, { AxisRaised.nothing with released := true }) := by
  simp [AxisInputs.drive, hr, h0]

/-- Otherwise the word is computed at the ramped setpoint (R24 to R31). -/
theorem drive_computes {u : Bool} (hr : a.released = false) (h : u = true → x.ramp a ≠ 0) :
    x.drive u a = ((x.compute { a with tension := x.ramp a }).1,
      { AxisRaised.nothing with saturation := (x.compute { a with tension := x.ramp a }).2 }) := by
  have hn : ¬(u = true ∧ x.ramp a = 0) := fun ⟨hu, h0⟩ => h hu h0
  simp [AxisInputs.drive, hr, hn]

/-- The three forms of the word part. -/
theorem drive_cases (x : AxisInputs) (u : Bool) (a : Axis) :
    (x.drive u a).1 = a ∨ (x.drive u a).1 = { a with tension := 0 }.release
      ∨ (x.drive u a).1 = (x.compute { a with tension := x.ramp a }).1 := by
  by_cases hr : a.released = true
  · rw [drive_released u hr]; exact .inl rfl
  · have hr : a.released = false := by simpa using hr
    by_cases h : u = true ∧ x.ramp a = 0
    · obtain ⟨rfl, h0⟩ := h
      rw [drive_releases hr h0]; exact .inr (.inl rfl)
    · rw [drive_computes hr fun hu h0 => h ⟨hu, h0⟩]; exact .inr (.inr rfl)

/-- A period takes the arm reading, and its word is the word part's or, in a forced state, the held one. -/
theorem period_word (x : AxisInputs) (t : Transport) (arm : Int) (a : Axis) :
    (x.period t arm a).1.word = a.word
      ∨ (x.period t arm a).1.word = (x.drive (t == .unthreading) { a with arm := arm }).1.word := by
  cases hf : t.isForced
  · cases hc : t.counting
    · rw [period_not_counting hf hc]; exact .inr rfl
    · rw [period_counting hf hc rfl]; exact .inr rfl
  · rw [period_forced hf]; exact .inl rfl

/-- A period keeps the word within its drive limit (R31). -/
theorem period_word_within (x : AxisInputs) (t : Transport) (arm : Int) (a : Axis)
    (hl : 0 ≤ driveLimit x.params x.reel) (ha : mag a.word ≤ driveLimit x.params x.reel) :
    mag (x.period t arm a).1.word ≤ driveLimit x.params x.reel := by
  rcases period_word x t arm a with h | h <;> rw [h]
  · exact ha
  · rcases drive_cases x (t == .unthreading) { a with arm := arm } with h | h | h <;> rw [h]
    · exact ha
    · exact hl
    · exact mag_clampTo hl _

end AxisPeriod

/-! ## The drive words stay within their limits (R31, R53) -/

/-- A move that leaves the axes, the speed unit and the parameters as they were. -/
theorem DriveWordsWithin.of_eq {s t : State} (hs : DriveWordsWithin s) (tension : t.tension = s.tension)
    (speed : t.speed = s.speed) (params : t.ports.params = s.ports.params) : DriveWordsWithin t := by
  unfold DriveWordsWithin
  rw [tension, speed, params]
  exact hs

/-- A change of state keeps each drive word or clears it (R33, R55). -/
theorem onChange_words (v : Tension) (w : Speed) (old new : Transport) :
    (∀ r, ((v.onChange old new).axes.get r).word = (v.axes.get r).word ∨ ((v.onChange old new).axes.get r).word = 0)
      ∧ ((w.onChange old new).loop = w.loop ∨ (w.onChange old new).loop = .reset) := by
  constructor
  · intro r
    unfold Tension.onChange
    split_ifs <;> simp [Axis.force, Axis.reset, Axis.clearArmCounts]
  · simp only [Speed.onChange, apply_ite Speed.loop, Speed.force, Speed.clearMeasured, ite_self]
    split_ifs <;> simp

/-- Every move keeps the drive words within their limits while the parameters lie in their ranges. -/
theorem Move.driveWordsWithin {s t : State} (h : Move s t) (hp : ParamsInRange s.ports.params)
    (hs : DriveWordsWithin s) : DriveWordsWithin t := by
  have limit : ∀ r, 0 ≤ driveLimit s.ports.params r := fun r => hp.nonneg _
  have capstan := hp.nonneg Param.capstanLimit
  obtain ⟨axes, loop⟩ := hs
  cases h with
  | aside h => exact .of_eq ⟨axes, loop⟩ h.tension h.speed h.params
  | learn r => exact .of_eq ⟨axes, loop⟩ (by simp) (by simp) (by simp)
  | flush => exact .of_eq ⟨axes, loop⟩ (by simp) (by simp) (by simp)
  | transport new dest =>
    obtain ⟨word, loop'⟩ := onChange_words s.tension s.speed s.seq.transport new
    refine ⟨fun r => ?_, ?_⟩
    · rcases word r with h | h <;> rw [setTransport_tension, h]
      · exact axes r
      · exact limit r
    · rcases loop' with h | h <;> rw [setTransport_speed, h]
      · exact loop
      · exact capstan
  | axis r arm =>
    refine ⟨fun q => ?_, loop⟩
    rw [setAxis_axes]
    by_cases hq : q = r
    · subst hq
      rw [Pair.get_set_same]
      exact period_word_within (s.axisInputs q) _ _ _ (limit q) (axes q)
    · rw [Pair.get_set_other _ _ _ _ hq]
      exact axes q
  | capstan h => exact ⟨axes, mag_clampTo capstan _⟩
  | speedAside v h =>
    refine ⟨axes, ?_⟩
    rw [setSpeed_speed, h.loop]
    exact loop
  | param n row v hn =>
    have stored := paramStored_nonneg hn v
    have hlt : n < s.ports.params.length := hp.1 ▸ (List.getElem?_eq_some_iff.mp hn).1
    refine ⟨fun r => ?_, ?_⟩
    · rw [writeParam_axis, writeParam_params, driveLimit, paramOf_set _ _ _ _ hlt]
      by_cases e : n = r.pick Param.supplyLimit Param.takeupLimit
      · rw [if_pos e, if_pos e.symm]
        exact mag_clampTo stored _
      · rw [if_neg e, if_neg (Ne.symm e)]
        exact axes r
    · rw [writeParam_loop, writeParam_params, paramOf_set _ _ _ _ hlt]
      by_cases e : n = Param.capstanLimit
      · rw [if_pos e, if_pos e.symm]
        exact mag_clampTo stored _
      · rw [if_neg e, if_neg (Ne.symm e)]
        exact loop
  | clearQualification =>
    refine ⟨fun r => ?_, loop⟩
    simpa [State.clearQualification, Axis.clearFault] using axes r
  | reset l =>
    have defaults := paramDefaults_inRange l.mode0High l.mode1High
    unfold DriveWordsWithin
    rw [reset_params]
    exact ⟨fun r => by cases r <;> exact defaults.nonneg _, defaults.nonneg _⟩
  | _ => exact ⟨axes, loop⟩

/-! ## The drives at 0 in UNTHREADED and FAULTED (R33, R45, R55, R60) -/

/-- An axis as forcing leaves it (R33). -/
def Axis.AtRest (a : Axis) : Prop := a.word = 0 ∧ a.tension = 0 ∧ a.integ = 0 ∧ a.released = false

/-- The speed unit as forcing leaves it (R55, R60). -/
def Speed.AtRest (v : Speed) : Prop :=
  v.vRef = 0 ∧ v.target = 0 ∧ v.accel = 0 ∧ v.loop = .reset ∧ v.stopPoint = none

theorem forcedAtRest_iff (s : State) : ForcedAtRest s ↔ (s.seq.transport.isForced = true →
    (∀ r, (s.tension.axes.get r).AtRest) ∧ s.speed.AtRest) := Iff.rfl

/-- A move that leaves the transport, the axes and the speed unit as they were. -/
theorem ForcedAtRest.of_eq {s t : State} (hs : ForcedAtRest s) (transport : t.seq.transport = s.seq.transport)
    (tension : t.tension = s.tension) (speed : t.speed = s.speed) : ForcedAtRest t := by
  unfold ForcedAtRest
  rw [transport, tension, speed]
  exact hs

/-- UNTHREADED and FAULTED have no phases: a forced state is the same state as itself alone. -/
theorem eq_of_sameState_forced {old new : Transport} (hn : new.isForced = true) (h : old.sameState new = true) :
    old = new := by
  cases new with
  | unthreaded | faulted => cases old <;> first | rfl | cases h
  | _ => cases hn

/-- An entry to a forced state forces the axis; within one it stays at rest (R33). -/
theorem onChange_axis_atRest {v : Tension} {old new : Transport} {r : Reel} (hn : new.isForced = true)
    (h : old = new → (v.axes.get r).AtRest) : ((v.onChange old new).axes.get r).AtRest := by
  unfold Tension.onChange
  split
  · next hsame => exact h (eq_of_sameState_forced hn hsame)
  · split <;> simp [Axis.AtRest, Axis.force, Axis.clearArmCounts, Axis.reset]

/-- An entry to a forced state forces the speed unit; within one it stays at rest (R55, R60). -/
theorem onChange_speed_atRest {v : Speed} {old new : Transport} (hn : new.isForced = true)
    (h : old = new → v.AtRest) : (v.onChange old new).AtRest := by
  unfold Speed.onChange
  split
  · next heq => exact h heq
  · split_ifs <;> exact ⟨rfl, rfl, rfl, rfl, rfl⟩

theorem roundDiv_nonneg {n d : Int} (hn : 0 ≤ n) (hd : 0 ≤ d) : 0 ≤ roundDiv n d := by
  rw [roundDiv, if_pos hn]
  exact Int.ediv_nonneg (by omega) (by omega)

/-- In a forced state the target is 0, and the generator holds v_ref and A at 0 (R45, R46, R60). -/
theorem generate_atRest {v : Speed} {ps : List Int} (g : Geometry) {t : Transport} (hf : t.isForced = true)
    (hp : 0 ≤ paramOf ps Param.accelLimit) (hv : v.AtRest) : (v.generate ps g t).AtRest := by
  obtain ⟨vRef, -, -, loop, stopPoint⟩ := hv
  have target : v.nextTarget ps g t = 0 := by
    cases t with
    | unthreaded | faulted => simp [Speed.nextTarget, stopPoint]
    | _ => cases hf
  have step : 0 ≤ accelStep ps t := by
    rw [accelStep, if_neg (by rintro rfl; cases hf)]
    exact roundDiv_nonneg hp (by decide)
  have held : toward 0 (accelStep ps t) 0 = 0 := if_pos step
  simp [Speed.AtRest, Speed.generate, target, vRef, held, loop, stopPoint]

theorem capstanActive_of_forced {t : Transport} (h : t.isForced = true) (k : Option DecelKind) :
    t.capstanActive k = false := by
  cases t with
  | unthreaded | faulted => rfl
  | _ => cases h

theorem locatePhase_of_forced {t : Transport} (h : t.isForced = true) : t.locatePhase = none := by
  cases t with
  | unthreaded | faulted => rfl
  | _ => cases h

/-- Every move keeps the drives at 0 in the forced states while the parameters lie in their ranges. -/
theorem Move.forcedAtRest {s t : State} (h : Move s t) (hp : ParamsInRange s.ports.params) (hs : ForcedAtRest s) :
    ForcedAtRest t := by
  cases h with
  | aside h => exact hs.of_eq (by rw [h.seq]) h.tension h.speed
  | learn r => exact hs.of_eq (by simp) (by simp) (by simp)
  | flush => exact hs.of_eq (by simp) (by simp) (by simp)
  | transport new dest =>
    have rest := (forcedAtRest_iff s).mp hs
    exact (forcedAtRest_iff _).mpr fun hf => ⟨fun r => onChange_axis_atRest hf fun e => (rest (e ▸ hf)).1 r,
      onChange_speed_atRest hf fun e => (rest (e ▸ hf)).2⟩
  | axis r arm =>
    intro hf
    change s.seq.transport.isForced = true at hf
    obtain ⟨axes, speed⟩ := hs hf
    refine ⟨fun q => ?_, speed⟩
    rw [setAxis_axes, State.axisAfter, period_forced hf]
    by_cases hq : q = r
    · subst hq
      rw [Pair.get_set_same]
      exact axes q
    · rw [Pair.get_set_other _ _ _ _ hq]
      exact axes q
  | capstan h =>
    intro hf
    cases (capstanActive_of_forced hf s.speed.kind).symm.trans h
  | stopPoint first point h =>
    intro hf
    change s.seq.transport.isForced = true at hf
    rw [locatePhase_of_forced hf] at h
    cases h
  | generator =>
    intro hf
    obtain ⟨axes, speed⟩ := hs hf
    exact ⟨axes, generate_atRest s.geom hf (hp.nonneg _) speed⟩
  | speedAside v h =>
    intro hf
    obtain ⟨axes, speed⟩ := hs hf
    refine ⟨axes, ?_⟩
    rw [setSpeed_speed, h.vRef, h.target, h.accel, h.loop, h.stopPoint]
    exact speed
  | param n row v hn =>
    obtain ⟨-, seq, -, -, -, -, -, -, frame⟩ := writeParam_frame s n (paramStored n row v)
    intro hf
    rw [seq] at hf
    obtain ⟨axes, vRef, target, accel, loop, stopPoint⟩ := hs hf
    have stored := paramStored_nonneg hn v
    have cleared : clampTo (-paramStored n row v) (paramStored n row v) 0 = 0 := clampTo_of_mem (by omega) stored
    refine ⟨fun r => ?_, ?_⟩
    · obtain ⟨word, tension, integ, released⟩ := axes r
      rw [writeParam_axis]
      split
      · exact ⟨by simp [Axis.clampWord, word, cleared], tension, integ, released⟩
      · exact ⟨word, tension, integ, released⟩
    · have loop' : (s.writeParam n (paramStored n row v)).speed.loop = .reset := by
        rw [writeParam_loop, loop]
        split
        · simp [CapstanLoop.reset, cleared]
        · rfl
      rw [frame]
      exact ⟨vRef, target, accel, loop', stopPoint⟩
  | clearQualification =>
    intro hf
    obtain ⟨axes, vRef, target, accel, loop, stopPoint⟩ := hs hf
    refine ⟨fun r => ?_, vRef, target, accel, ?_, stopPoint⟩
    · obtain ⟨word, tension, -, released⟩ := axes r
      simp [State.clearQualification, Axis.clearFault, word, tension, released]
    · simp [State.clearQualification, loop, CapstanLoop.reset]
  | reset l => exact fun _ => ⟨fun r => by cases r <;> exact ⟨rfl, rfl, rfl, rfl⟩, rfl, rfl, rfl, rfl, rfl⟩
  | _ => exact hs

/-- Settles O47: every move keeps the parameters in range, and with them each of the two invariants. -/
theorem drivesStayLimitedAndForced : Obligations.DrivesStayLimitedAndForced := fun s t h hp =>
  ⟨step_keeps (P := fun u => ParamsInRange u.ports.params) (fun _ _ m => m.paramsInRange) s t h hp,
   fun hs => (step_keeps (P := fun u => ParamsInRange u.ports.params ∧ DriveWordsWithin u)
     (fun _ _ m hu => ⟨m.paramsInRange hu.1, m.driveWordsWithin hu.1 hu.2⟩) s t h ⟨hp, hs⟩).2,
   fun hs => (step_keeps (P := fun u => ParamsInRange u.ports.params ∧ ForcedAtRest u)
     (fun _ _ m hu => ⟨m.paramsInRange hu.1, m.forcedAtRest hu.1 hu.2⟩) s t h ⟨hp, hs⟩).2⟩

/-! ## AXIS_SERVO_PERIOD (R26) -/

theorem exec_axisServoPeriod {s : State} (h : Due.extStopCatch ∉ s.due) (r : Reel) (arm : Fin 4096) :
    exec (.axisServoPeriod r arm) s = .next (s.axisServoPeriod r arm.val) := by
  show Host.Outcome.next (s.takeCatches.axisServoPeriod r arm.val) = _
  rw [takeCatches_of_not_mem h]

/-- The events that a period puts into `due`, in their order (log entry 34). -/
def AxisRaised.events (r : Reel) (x : AxisRaised) : List Due :=
  (if x.low then [.low r] else []) ++ (if x.high then [.high r] else []) ++ if x.saturation then [.saturation r] else []

theorem raiseDue_eq (s : State) (b : Bool) (d : Due) :
    s.raiseDue b d = s.setDue (s.due ++ if b then [d] else []) := by
  cases b <;> simp [State.raiseDue, State.setDue]

/-- A period writes its axis and raises its events, and nothing else. -/
theorem axisPeriod_eq {s : State} {r : Reel} {arm : Int} {a : Axis} {x : AxisRaised} (h : s.axisAfter r arm = (a, x)) :
    s.axisPeriod r arm = ((s.setAxis r a).setDue (s.due ++ x.events r), x.released) := by
  simp [State.axisPeriod, h, raiseDue_eq, State.setDue, AxisRaised.events]

/-- Outside THREADING a period that releases no axis is all there is. -/
theorem axisServoPeriod_eq {s : State} {r : Reel} {arm : Int} {a : Axis} {x : AxisRaised}
    (h : s.axisAfter r arm = (a, x)) (hx : x.released = false) (ht : s.seq.transport ≠ .threading) :
    s.axisServoPeriod r arm = (s.setAxis r a).setDue (s.due ++ x.events r) := by
  simp [State.axisServoPeriod, axisPeriod_eq h, hx, State.threadingTest, ht]

/-- In THREADING the word part is followed by the threading test (R38). -/
theorem axisServoPeriod_threading {s : State} {r : Reel} {arm : Int} {a : Axis} {x : AxisRaised}
    (h : s.axisAfter r arm = (a, x)) (ht : s.seq.transport = .threading) :
    s.axisServoPeriod r arm = ((s.setAxis r a).setDue (s.due ++ x.events r)).threadingTest := by
  have hx : x.released = false := by
    have hd : ((s.axisInputs r).period s.seq.transport arm (s.tension.axes.get r)).2 = x := congrArg Prod.snd h
    rw [ht, period_not_counting rfl rfl] at hd
    rw [← hd, AxisInputs.drive]
    split <;> rfl
  simp [State.axisServoPeriod, axisPeriod_eq h, hx]

/-- Every period takes the arm reading (R21). -/
theorem axisAfter_arm (s : State) (r : Reel) (arm : Int) : (s.axisAfter r arm).1.arm = arm := by
  have word : ∀ (x : AxisInputs) (u : Bool) (a : Axis), (x.drive u a).1.arm = a.arm := by
    intro x u a
    rcases drive_cases x u a with h | h | h <;> rw [h] <;> rfl
  unfold State.axisAfter
  cases hf : s.seq.transport.isForced
  · cases hc : s.seq.transport.counting
    · rw [period_not_counting hf hc, word]
    · rw [period_counting hf hc rfl]
      exact word ..
  · rw [period_forced hf]

/-! ## The threading test (R38, R66, R79) -/

theorem firstOut_none {ps : List Int} {v : Tension} (h : ∀ q, mag ((v.axes.get q).arm - armCentre ps q) ≤ 200) :
    v.firstOut ps = none := by
  simp [Tension.firstOut, inBand, show mag (v.axes.supply.arm - _) ≤ 200 from h .supply,
    show mag (v.axes.takeup.arm - _) ≤ 200 from h .takeup]

theorem firstOut_some {ps : List Int} {v : Tension} (h : ∃ q, 200 < mag ((v.axes.get q).arm - armCentre ps q)) :
    v.firstOut ps
      = some (if 200 < mag ((v.axes.get .supply).arm - armCentre ps .supply) then .supply else .takeup) := by
  by_cases hs : 200 < mag ((v.axes.get .supply).arm - armCentre ps .supply)
  · rw [if_pos hs]
    simp [Tension.firstOut, inBand, show 200 < mag (v.axes.supply.arm - _) from hs]
  · obtain ⟨q, hq⟩ := h
    cases q with
    | supply => exact absurd hq hs
    | takeup =>
      rw [if_neg hs]
      simp [Tension.firstOut, inBand, show mag (v.axes.supply.arm - _) ≤ 200 from not_lt.mp hs,
        show 200 < mag (v.axes.takeup.arm - _) from hq]

theorem threadingTest_in {s : State} (ht : s.seq.transport = .threading)
    (h : ∀ q, mag ((s.tension.axes.get q).arm - armCentre s.ports.params q) ≤ 200) :
    s.threadingTest = s.tensionEstablished := by
  rw [State.threadingTest, if_pos ht, firstOut_none h]

theorem threadingTest_out {s : State} (ht : s.seq.transport = .threading)
    (h : ∃ q, 200 < mag ((s.tension.axes.get q).arm - armCentre s.ports.params q)) :
    s.threadingTest = s.noteOut
      (if 200 < mag ((s.tension.axes.get .supply).arm - armCentre s.ports.params .supply) then .supply else .takeup) := by
  rw [State.threadingTest, if_pos ht, firstOut_some h]

theorem retensioning_iff (s : State) :
    s.retensioning = true ↔ ∃ m, s.arb.active = some m ∧ m.kind = .clearFault := by
  unfold State.retensioning
  cases s.arb.active <;> simp

/-- CLEAR_FAULT's re-tensioning ends in SETTLING (R79). -/
theorem tensionEstablished_retensioning {s : State} (h : s.retensioning = true) :
    s.tensionEstablished = s.setTransport .settling none := if_pos h

/-- A threading ends in MEASURING, in CREEP_STOP when the creep was cancelled (R38, R66). -/
theorem tensionEstablished_measuring {s : State} (h : s.retensioning = false) :
    s.tensionEstablished
      = s.setTransport (.measuring (if s.seq.creepCancelled then .creepStop else .creep))
          (if s.seq.creepCancelled then some .settling else none) := by
  rw [State.tensionEstablished, if_neg (by simp [h])]
  split <;> rfl

/-- Tension is established by one change to a counting state. -/
theorem tensionEstablished_eq (s : State) :
    ∃ new dest, s.tensionEstablished = s.setTransport new dest ∧ new.counting = true := by
  cases h : s.retensioning
  · exact ⟨_, _, tensionEstablished_measuring h, rfl⟩
  · exact ⟨_, _, tensionEstablished_retensioning h, rfl⟩

/-- Leaving THREADING for a counting state stops the threading timer and starts the low and high counts at 0 (R36 to
R38). -/
theorem onChange_threading_counting {new : Transport} (v : Tension) (h : new.counting = true) :
    v.onChange .threading new
      = { axes := v.axes.map Axis.clearArmCounts, threadingTimer := false, outAtLastTest := none } := by
  cases new with
  | unthreaded | threading | faulted | unthreading => cases h
  | _ => rfl

/-- An entry to MEASURING starts the measuring timer (R14). -/
theorem onChange_measuring (g : Geometry) (p : MeasurePhase) :
    (g.onChange .threading (.measuring p)).measuringTimer = true := rfl

/-- What the establishment of tension leaves as it was. -/
theorem tensionEstablished_frame {s : State} (ht : s.seq.transport = .threading) :
    s.tensionEstablished.tension
        = { axes := s.tension.axes.map Axis.clearArmCounts, threadingTimer := false, outAtLastTest := none }
      ∧ s.tensionEstablished.due = s.due ∧ s.tensionEstablished.marks = s.marks ∧ s.tensionEstablished.arb = s.arb
      ∧ s.tensionEstablished.prot.report = s.prot.report ∧ s.tensionEstablished.ports = s.ports := by
  obtain ⟨new, dest, h, hc⟩ := tensionEstablished_eq s
  rw [h, setTransport_tension, ht, onChange_threading_counting _ hc]
  exact ⟨rfl, rfl, rfl, rfl, rfl, rfl⟩

/-- The period that finds both arms in their bands establishes tension. -/
theorem axisServoPeriod_establishes {s : State} {r o : Reel} {arm : Int} (ht : s.seq.transport = .threading) (ho : o ≠ r)
    (hr : mag (arm - armCentre s.ports.params r) ≤ 200)
    (hother : mag ((s.tension.axes.get o).arm - armCentre s.ports.params o) ≤ 200) :
    ∃ a ds, s.axisServoPeriod r arm = ((s.setAxis r a).setDue ds).tensionEstablished := by
  obtain ⟨⟨a, x⟩, h⟩ : ∃ p, s.axisAfter r arm = p := ⟨_, rfl⟩
  have ha : a.arm = arm := by rw [← axisAfter_arm s r arm, h]
  refine ⟨a, s.due ++ x.events r, (axisServoPeriod_threading h ht).trans (threadingTest_in ht fun q => ?_)⟩
  show mag (((s.tension.axes.set r a).get q).arm - armCentre s.ports.params q) ≤ 200
  by_cases hq : q = r
  · subst hq
    rw [Pair.get_set_same, ha]
    exact hr
  · obtain rfl : q = o := by cases q <;> cases r <;> cases o <;> first | rfl | contradiction
    rw [Pair.get_set_other _ _ _ _ hq]
    exact hother

/-- Settles O34: the period writes its axis, and the threading test then finds both arms in their bands. -/
theorem threadingEndsAtTensionEstablished : Obligations.ThreadingEndsAtTensionEstablished := by
  intro r o arm s ht ho hc hr hother
  obtain ⟨a, ds, established⟩ := axisServoPeriod_establishes ht ho hr hother
  rw [exec_axisServoPeriod hc, established]
  obtain ⟨tension, -, marks, arb, report, ports⟩ :=
    tensionEstablished_frame (s := (s.setAxis r a).setDue ds) ht
  refine ⟨_, rfl, by rw [tension], fun h => ?_, fun h => ?_, marks, arb, report, ports⟩
  · rw [tensionEstablished_retensioning ((retensioning_iff ((s.setAxis r a).setDue ds)).mpr h)]
    exact ⟨rfl, setTransport_head _ (by simp [ht, Transport.isMeasuring]) (by simp),
      by simp [State.setTransport, Sequencer.onChange, ht, State.param]⟩
  · rw [tensionEstablished_measuring (by
      rw [Bool.eq_false_iff, ne_eq, retensioning_iff]
      exact fun ⟨m, hm, hk⟩ => h m hm hk)]
    refine ⟨by simp [ht, onChange_measuring], fun hx => ?_, fun hx => ?_⟩ <;> simp [hx]

/-! ## The second release (R25, R60, R81, R105, R126) -/

theorem toward_zero_of_mag_le {x step : Int} (h : mag x ≤ step) : toward 0 step x = 0 := by
  rw [toward, zero_sub, mag_neg, if_pos h]

/-- In UNTHREADING a period whose T comes to 0 releases its axis (R25). -/
theorem axisAfter_releases {s : State} {r : Reel} (arm : Int) (ht : s.seq.transport = .unthreading)
    (hr : (s.tension.axes.get r).released = false)
    (h0 : mag (s.tension.axes.get r).tension ≤ paramOf s.ports.params Param.tensionRamp) :
    s.axisAfter r arm
      = ({ s.tension.axes.get r with
            arm := arm, tension := 0, word := 0, integ := 0, clamp := .none, satCount := 0, released := true },
          { AxisRaised.nothing with released := true }) := by
  have target : (s.axisInputs r).target = 0 := by simp [State.axisInputs, ht, Transport.tensionRow, TensionChoice.value]
  have ramp : (s.axisInputs r).ramp { s.tension.axes.get r with arm := arm } = 0 := by
    rw [AxisInputs.ramp, target]
    exact toward_zero_of_mag_le h0
  rw [State.axisAfter, ht, period_not_counting rfl rfl]
  exact drive_releases hr ramp

theorem bothReleased_set {r o : Reel} (ho : o ≠ r) (v : Tension) (a : Axis) :
    ({ v with axes := v.axes.set r a } : Tension).bothReleased = (a.released && (v.axes.get o).released) := by
  cases r <;> cases o
  case supply.supply | takeup.takeup => exact absurd rfl ho
  case supply.takeup => rfl
  case takeup.supply => exact Bool.and_comm ..

/-- The period that releases an axis: the first release goes on in UNTHREADING, the second enters UNTHREADED (R81). -/
theorem axisServoPeriod_releases {s : State} {r o : Reel} {arm : Int} {a : Axis} (ho : o ≠ r)
    (h : s.axisAfter r arm = (a, { AxisRaised.nothing with released := true })) (ha : a.released = true)
    (ht : s.seq.transport = .unthreading) :
    s.axisServoPeriod r arm
      = if (s.tension.axes.get o).released then (s.setAxis r a).enterUnthreaded else s.setAxis r a := by
  have period : s.axisPeriod r arm = (s.setAxis r a, true) := by
    rw [axisPeriod_eq h]
    simp [AxisRaised.events, AxisRaised.nothing, State.setDue, State.setAxis]
  have both : (s.setAxis r a).tension.bothReleased = (s.tension.axes.get o).released := by
    rw [State.setAxis, bothReleased_set ho, ha, Bool.true_and]
  simp [State.axisServoPeriod, period, both, State.threadingTest, ht]

/-- An entry to UNTHREADED unbinds both reels and leaves their circumferences absent (R5, R15). -/
theorem enterUnthreaded_geom {s : State} (h : s.seq.transport ≠ .unthreaded) :
    s.enterUnthreaded.geom.bound = ⟨none, none⟩ ∧ ∀ q, (s.enterUnthreaded.geom.est.get q).c = none := by
  have hs : s.seq.transport.sameState .unthreaded = false := by
    cases hst : s.seq.transport <;> first | rfl | exact absurd hst h
  have unthread : ∃ g : Geometry, s.enterUnthreaded.geom = g.unthread := by
    simp [State.enterUnthreaded, Geometry.onChange, hs]
  obtain ⟨g, hg⟩ := unthread
  rw [hg]
  exact ⟨rfl, fun q => by cases q <;> rfl⟩

/-- A map event writes the marks' resolutions alone (R135). -/
theorem mapEvent_marks_records (s : State) (e : Learned) :
    (s.mapEvent e).marks.map (fun m => (m.number, m.address, m.trim, m.owner, m.lock))
      = s.marks.map (fun m => (m.number, m.address, m.trim, m.owner, m.lock)) := by
  rw [mapEvent_marks]
  split
  · rfl
  · rw [List.map_map]
    rfl

/-- Settles O35: T comes to 0 in the period, so the axis is released; what follows depends on the other axis. -/
theorem secondReleaseEntersUnthreaded : Obligations.SecondReleaseEntersUnthreaded := by
  intro r o arm s ht ho hr hc h0
  refine ⟨_, exec_axisServoPeriod hc r arm, fun hother => ?_, fun hother => ?_⟩
  · rw [axisServoPeriod_releases ho (axisAfter_releases _ ht hr h0) rfl ht, hother]
    rfl
  · rw [axisServoPeriod_releases ho (axisAfter_releases _ ht hr h0) rfl ht, hother, if_pos rfl]
    generalize hu : s.setAxis r _ = u
    have htu : u.seq.transport = .unthreading := by rw [← hu]; exact ht
    obtain ⟨state, head, spans, arb, -, params, outputs⟩ := enterUnthreaded_spec (s := u) (by simp [htu])
    obtain ⟨bound, est⟩ := enterUnthreaded_geom (s := u) (by simp [htu])
    obtain ⟨axes, -, -⟩ := setTransport_forced (s := u) (new := .unthreaded) none rfl (by rw [htu]; rfl)
    have tension : u.enterUnthreaded.tension = (u.setTransport .unthreaded none).tension := by
      simp [State.enterUnthreaded]
    have speed : u.enterUnthreaded.speed
        = { Speed.reset with chaseRatio := u.speed.chaseRatio, requested := u.speed.requested } := by
      rw [← setTransport_unthreaded_speed none htu]
      simp [State.enterUnthreaded]
    have candidate : u.enterUnthreaded.map.candidate = none := by simp [State.enterUnthreaded, MapUnit.flush]
    have report : u.enterUnthreaded.prot.report = u.prot.report := by simp [State.enterUnthreaded]
    rw [tension, speed, arb, report, params]
    subst hu
    exact ⟨state, outputs, head, bound, est, axes, rfl, rfl, fun q => by cases q <;> exact ⟨rfl, rfl, rfl⟩, rfl, rfl, rfl,
      rfl, rfl, rfl, rfl, rfl, rfl, rfl, spans, candidate, rfl, rfl, mapEvent_marks_records _ _, rfl, rfl⟩

/-! ## The drive word by the row of R23 -/

/-- The rows of R23 with the wind tension. -/
abbrev Transport.windRow (t : Transport) (k : Option DecelKind) : Prop :=
  t ∈ [Transport.measuring .creep, .measuring .creepStop, .play .braking, .wind, .shuttle, .locate .travel,
      .locate .reposition, .chase (.locating .travel), .chase (.locating .reposition)]
    ∨ (t ∈ [Transport.halting, .protectStop, .chase .releasing] ∧ k = some .reel)

/-- The rows of R23 with the play tension. -/
abbrev Transport.playRow (t : Transport) (k : Option DecelKind) : Prop :=
  t ∈ [Transport.play .engage, .play .running, .locate .approach, .locate .verify, .chase .rolling,
      .chase (.locating .approach), .chase (.locating .verify)]
    ∨ (t ∈ [Transport.halting, .protectStop, .chase .releasing] ∧ k = some .capstan)

/-- The rows of R23 with the speed term. -/
abbrev Transport.speedRow (t : Transport) (k : Option DecelKind) : Prop :=
  t.windRow k ∧ (t = .measuring .creepStop ∨ t = .play .braking → k = some .reel)

/-- The table of R23, row by row. -/
theorem tensionRow_eq {t : Transport} (k : Option DecelKind) (h : t.isForced = false) :
    t.tensionRow k
      = (if t = .unthreading then .zero else if t.windRow k then .wind else if t.playRow k then .play else .stop,
          decide (t.speedRow k)) := by
  cases t with
  | unthreaded | faulted => cases h
  | threading | settling | stopped | wind | shuttle | unthreading => rfl
  | halting | protectStop => rcases k with _ | _ | _ | _ <;> rfl
  | measuring p =>
    cases p with
    | creep => rfl
    | creepStop => rcases k with _ | _ | _ | _ <;> rfl
  | play p =>
    cases p with
    | engage | running => rfl
    | braking => rcases k with _ | _ | _ | _ <;> rfl
  | locate p => cases p <;> rfl
  | chase p =>
    cases p with
    | parked | rolling => rfl
    | locating p => cases p <;> rfl
    | releasing => rcases k with _ | _ | _ | _ <;> rfl

/-- The saturation count spelt (R34). -/
theorem countSaturation_eq (dir : Clamp) (n : Nat) :
    countSaturation dir n
      = (if dir = .none then 0 else if n + 1 = 250 then 0 else n + 1, decide (dir ≠ .none ∧ n + 1 = 250)) := by
  unfold countSaturation
  split_ifs <;> simp_all

/-- A count of consecutive periods spelt (R36, R37). -/
theorem countConsecutive_eq (limit n : Nat) (hit : Prop) [Decidable hit] :
    countConsecutive limit (decide hit) n
      = (if hit then (if n + 1 = limit then 0 else n + 1) else 0, decide (hit ∧ n + 1 = limit)) := by
  unfold countConsecutive
  split_ifs <;> simp_all

/-- D_raw spelt for each axis (R31). -/
theorem rawWord_eq (x : AxisInputs) (tension e integ : Int) :
    x.rawWord tension e integ
      = match x.reel with
        | .takeup => x.feedforward tension + x.proportional e + roundDiv integ 4096 + x.inertiaTerm + x.speedTermValue
        | .supply => x.feedforward tension + x.proportional e + roundDiv integ 4096 - x.inertiaTerm - x.speedTermValue := by
  unfold AxisInputs.rawWord
  cases x.reel <;> simp only [Reel.tapeSign] <;> omega

/-- The inputs of a reel with its profile and C (R26). -/
theorem axisInputs_eq {s : State} {r : Reel} {p : Profile} {c : Int} (hf : s.seq.transport.isForced = false)
    (hp : s.geom.profile r = some p) (hc : (s.geom.est.get r).c = some c) :
    s.axisInputs r
      = { reel := r, c := c, j := p.inertiaAt c, accel := s.speed.accel, vRef := s.speed.vRef, vMeas := s.speed.vMeas
          target := (if s.seq.transport = .unthreading then TensionChoice.zero
            else if s.seq.transport.windRow s.speed.kind then .wind
            else if s.seq.transport.playRow s.speed.kind then .play else .stop).value s.ports.params
          speedTerm := decide (s.seq.transport.speedRow s.speed.kind), params := s.ports.params } := by
  unfold State.axisInputs
  rw [tensionRow_eq _ hf, hc, Geometry.inertia, hp, hc]
  rfl

/-- The word part of a period computes: the axis it leaves, and whether the saturation count reached its limit. -/
def State.Computes (s : State) (r : Reel) (arm : Int) (b : Axis) (sat : Bool) : Prop :=
  (s.axisInputs r).drive (s.seq.transport == .unthreading) { s.tension.axes.get r with arm := arm }
    = (b, { AxisRaised.nothing with saturation := sat })

/-- An unreleased axis computes, unless UNTHREADING has brought its T to 0. -/
theorem computes_of_unreleased {s : State} {r : Reel} {arm tension : Int} {b : Axis} {sat : Bool}
    (hr : (s.tension.axes.get r).released = false)
    (ht : (s.axisInputs r).ramp (s.tension.axes.get r) = tension) (h0 : s.seq.transport = .unthreading → tension ≠ 0)
    (hb : (s.axisInputs r).compute { s.tension.axes.get r with arm := arm, tension := tension } = (b, sat)) :
    s.Computes r arm b sat := by
  subst ht
  unfold State.Computes
  rw [drive_computes (a := { s.tension.axes.get r with arm := arm }) hr fun hu => h0 (by simpa using hu)]
  exact congrArg (fun p : Axis × Bool => (p.1, { AxisRaised.nothing with saturation := p.2 })) hb

section Computes

variable {s : State} {r : Reel} {arm : Int} {b : Axis} {sat : Bool} (h : s.Computes r arm b sat)
include h

/-- A computing period in UNTHREADING is its word part. -/
theorem State.Computes.unthreading (ht : s.seq.transport = .unthreading) :
    s.axisServoPeriod r arm = (s.setAxis r b).setDue (s.due ++ if sat then [.saturation r] else []) := by
  have after := (period_not_counting (by rw [ht]; rfl) (by rw [ht]; rfl)).trans h
  rw [axisServoPeriod_eq after rfl (by simp [ht])]
  rfl

/-- A computing period in THREADING is its word part, then the threading test. -/
theorem State.Computes.threading (ht : s.seq.transport = .threading) :
    s.axisServoPeriod r arm
      = ((s.setAxis r b).setDue (s.due ++ if sat then [.saturation r] else [])).threadingTest := by
  have after := (period_not_counting (by rw [ht]; rfl) (by rw [ht]; rfl)).trans h
  rw [axisServoPeriod_threading after ht]
  rfl

/-- A computing period in a counting state is its word part, then the low and high counts (R36, R37). -/
theorem State.Computes.counting (hc : s.seq.transport.counting = true) :
    s.axisServoPeriod r arm
      = (s.setAxis r
          { b with
            lowCount := if b.arm < paramOf s.ports.params Param.armLow
              then (if b.lowCount + 1 = 20 then 0 else b.lowCount + 1) else 0
            highCount := if paramOf s.ports.params Param.armHigh < b.arm
              then (if b.highCount + 1 = 5 then 0 else b.highCount + 1) else 0 }).setDue
          (s.due
            ++ (if b.arm < paramOf s.ports.params Param.armLow ∧ b.lowCount + 1 = 20 then [.low r] else [])
            ++ (if paramOf s.ports.params Param.armHigh < b.arm ∧ b.highCount + 1 = 5 then [.high r] else [])
            ++ if sat then [.saturation r] else []) := by
  obtain ⟨hf, ht⟩ : s.seq.transport.isForced = false ∧ s.seq.transport ≠ .threading := by
    cases hs : s.seq.transport <;> simp_all [Transport.counting, Transport.isForced]
  have after := period_counting hf hc h
  simp only [Axis.countArm, show (s.axisInputs r).params = s.ports.params from rfl, countConsecutive_eq] at after
  rw [axisServoPeriod_eq after rfl ht]
  simp only [AxisRaised.events, decide_eq_true_eq, List.append_assoc]

end Computes

/-- In the forced states, and in UNTHREADING after the axis's release, a period takes the arm reading alone (R25, R33). -/
theorem axisServoPeriod_arm_alone {s : State} {r : Reel} (arm : Int) (h : s.seq.transport.isForced = true
    ∨ (s.seq.transport = .unthreading ∧ (s.tension.axes.get r).released = true)) :
    s.axisServoPeriod r arm = s.setAxis r { s.tension.axes.get r with arm := arm } := by
  have alone : s.axisAfter r arm = ({ s.tension.axes.get r with arm := arm }, .nothing) := by
    unfold State.axisAfter
    rcases h with hf | ⟨ht, hr⟩
    · exact period_forced hf
    · rw [ht, period_not_counting rfl rfl]
      exact drive_released _ hr
  have ht : s.seq.transport ≠ .threading := by
    rintro e
    rcases h with h | ⟨h, -⟩ <;> rw [e] at h <;> cases h
  rw [axisServoPeriod_eq alone rfl ht]
  simp [AxisRaised.events, AxisRaised.nothing, State.setDue, State.setAxis]

theorem threadingTest_due (s : State) : s.threadingTest.due = s.due := by
  unfold State.threadingTest
  split
  · next ht =>
    split
    · obtain ⟨-, due, -⟩ := tensionEstablished_frame ht
      exact due
    · rfl
  · rfl

/-- Settles O33: the inputs are those of R23's row, so the word part computes the spelt axis, and the state decides what
follows it. -/
theorem axisPeriodComputesDriveWord : Obligations.AxisPeriodComputesDriveWord := by
  refine ⟨fun r arm s hs hd => ?_, ?_⟩
  · rw [exec_axisServoPeriod hd, axisServoPeriod_arm_alone _ hs]
    rfl
  · intro r arm p c s hf hd hp hc hr a b ps wind play reelRow target tension e addition integ ff pr q sp raw limit dir full
      ha hps hwind hplay hreel htarget htension he hadd hinteg hff hpr hq hsp hraw hlimit hdir hb hfull
    subst ha hps
    have inputs : s.axisInputs r
        = { reel := r, c := c, j := p.inertiaAt c, accel := s.speed.accel, vRef := s.speed.vRef, vMeas := s.speed.vMeas
            target := target, speedTerm := reelRow, params := s.ports.params } := by
      rw [axisInputs_eq hf hp hc, htarget]
      congr 1
      · simp only [hwind, hplay, apply_ite (TensionChoice.value s.ports.params)]
        rfl
      · rw [Bool.eq_iff_iff, decide_eq_true_iff, hreel, hwind]
    have ramp : (s.axisInputs r).ramp (s.tension.axes.get r) = tension := by
      rw [inputs, htension]
      rfl
    have word : (s.axisInputs r).compute { s.tension.axes.get r with arm := arm.val, tension := tension }
        = (b, decide (dir ≠ .none ∧ (s.tension.axes.get r).satCount + 1 = 250)) := by
      rw [inputs]
      subst hb hdir hlimit hraw hsp hq hpr hff hinteg hadd he
      simp only [AxisInputs.compute, rawWord_eq, countSaturation_eq]
      rfl
    have computes (h0 : s.seq.transport = .unthreading → tension ≠ 0) := computes_of_unreleased hr ramp h0 word
    have saturated : (if decide (dir ≠ .none ∧ (s.tension.axes.get r).satCount + 1 = 250) then [Due.saturation r] else [])
        = full := by simp only [hfull, decide_eq_true_eq]
    rw [exec_axisServoPeriod hd]
    refine ⟨fun ht h0 => ?_, fun ht => ?_, fun h1 h2 => ?_⟩
    · rw [(computes fun _ => h0).unthreading ht, saturated]
      rfl
    · rw [(computes fun h => by simp [ht] at h).threading ht, saturated]
      refine ⟨_, rfl, threadingTest_due _, fun hout => ?_, fun hin => ?_⟩
      · rw [threadingTest_out (s := (s.setAxis r b).setDue (s.due ++ full)) ht hout]
        exact ⟨rfl, rfl⟩
      · rw [threadingTest_in (s := (s.setAxis r b).setDue (s.due ++ full)) ht hin]
        obtain ⟨tension, -⟩ := tensionEstablished_frame (s := (s.setAxis r b).setDue (s.due ++ full)) ht
        intro q
        rw [tension, Pair.get_map]
        rfl
    · rw [(computes fun h => absurd h h2).counting (Transport.counting_of hf h1 h2), saturated, hb]
      rfl

end Sys2Proof.Machine

/-! # The speed control family

The capstan period, then the target of a generator period. A generator period is its steps and counts, said once in
`stepped_eq`, and then the report of a stopping point or of rest; the three statements about one PROFILE_GENERATOR_PERIOD
follow. -/

namespace Sys2Proof.Machine

/-! ## CAPSTAN_SERVO_PERIOD (R53 to R55) -/

theorem exec_capstanServoPeriod {s : State} (h : Due.extStopCatch ∉ s.due) :
    exec .capstanServoPeriod s = .next s.capstanPeriod := by
  show Host.Outcome.next s.takeCatches.capstanPeriod = _
  rw [takeCatches_of_not_mem h]

/-- A period of the idle loop changes nothing (R53). -/
theorem capstanPeriod_idle {s : State} (h : s.seq.transport.capstanActive s.speed.kind = false) :
    s.capstanPeriod = s := by
  rw [State.capstanPeriod, if_neg (by simp [h])]

/-- A period of the active loop writes the loop and raises its limit, and nothing else (R53, R54). -/
theorem capstanPeriod_active {s : State} {l : CapstanLoop} {full : Bool}
    (h : s.seq.transport.capstanActive s.speed.kind = true)
    (hl : s.speed.loop.period s.ports.params s.speed.vRef s.speed.vCap = (l, full)) :
    s.capstanPeriod = (s.setLoop l).setDue (s.due ++ if full then [.capstanSaturation] else []) := by
  rw [State.capstanPeriod, if_pos h, hl, raiseDue_eq]
  rfl

/-- Settles O36: the loop's own period is the spelt one. -/
theorem capstanPeriodComputesWhileActive : Obligations.CapstanPeriodComputesWhileActive := by
  intro s hc
  rw [exec_capstanServoPeriod hc]
  refine ⟨fun hi => by rw [capstanPeriod_idle hi], ?_⟩
  intro ha e addition integ raw limit dir he hadd hinteg hraw hlimit hdir
  have period : s.speed.loop.period s.ports.params s.speed.vRef s.speed.vCap
      = ({ integ := integ, word := clampTo (-limit) limit raw, clamp := dir
           satCount := if dir = .none then 0
             else if s.speed.loop.satCount + 1 = 250 then 0 else s.speed.loop.satCount + 1 },
          decide (dir ≠ .none ∧ s.speed.loop.satCount + 1 = 250)) := by
    subst hdir hlimit hraw hinteg hadd he
    simp only [CapstanLoop.period, countSaturation_eq]
    rfl
  rw [capstanPeriod_active ha period]
  simp only [decide_eq_true_eq]
  rfl

/-! ## The generator's target (R18 to R20, R45, R47 to R50) -/

/-- The end approach of two measured reels: the leaving one, by the tape's direction, is near its end (R19). -/
theorem endApproach_iff {g : Geometry} {a b : Profile} {ca cb : Int} (ha : g.profile .supply = some a)
    (hb : g.profile .takeup = some b) (hca : (g.est.get .supply).c = some ca) (hcb : (g.est.get .takeup).c = some cb)
    (margin target vRef : Int) :
    g.endApproach margin target vRef = true
      ↔ (0 < (if target = 0 then vRef else target) ∧ ca ≤ a.ch + margin)
        ∨ ((if target = 0 then vRef else target) < 0 ∧ cb ≤ b.ch + margin) := by
  simp only [Geometry.endApproach, leavingReel]
  generalize (if target = 0 then vRef else target) = dir
  rcases lt_trichotomy dir 0 with h | h | h
  · simp [h, not_lt.mpr h.le, hb, hcb]
  · simp [h]
  · simp [h, not_lt.mpr h.le, ha, hca]

/-- The bounded speed of two measured reels, spelt (R18 to R20, R47). -/
theorem boundedSpeed_eq {g : Geometry} {a b : Profile} {ca cb : Int} (ha : g.profile .supply = some a)
    (hb : g.profile .takeup = some b) (hca : (g.est.get .supply).c = some ca) (hcb : (g.est.get .takeup).c = some cb)
    (ps : List Int) (target vRef x : Int) :
    boundedSpeed ps g target vRef x
      = x.sign *
        (let dir := if target = 0 then vRef else target
         let m := min (min (min (mag x) (paramOf ps Param.windSpeed)) (truncDiv (a.nmax * ca) 1024))
           (truncDiv (b.nmax * cb) 1024)
         if (0 < dir ∧ ca ≤ a.ch + paramOf ps Param.endMargin) ∨ (dir < 0 ∧ cb ≤ b.ch + paramOf ps Param.endMargin)
         then min m (paramOf ps Param.endSpeed) else m) := by
  simp only [boundedSpeed, Geometry.boundSpeed, endApproach_iff ha hb hca hcb, Geometry.speedLimit, ha, hb, hca, hcb]
  rfl

/-- Rules 1 and 2 of R48, spelt. -/
theorem mustStop_iff (ps : List Int) (vRef r : Int) :
    mustStop ps vRef r = true
      ↔ (vRef ≠ 0 ∧ vRef.sign = -r.sign)
        ∨ mag r ≤ truncDiv (vRef * vRef) (2 * paramOf ps Param.accelLimit) + truncDiv (mag vRef) 1000 := by
  rw [mustStop, Bool.or_eq_true, decide_eq_true_iff, decide_eq_true_iff, stopDistance]

/-- The completion test, spelt (R48). -/
theorem atPoint_iff (v : Speed) (r : Int) :
    v.atPoint r = true ↔ v.vRef = 0 ∧ if v.mode = .reel then mag r ≤ 2 else r ≤ 2 := by
  rw [Speed.atPoint, Bool.and_eq_true, decide_eq_true_iff]
  split <;> rw [decide_eq_true_iff]

/-- The tests that hold a motion with a stopping point: rules 1 and 2 of R48, and the completion test in the first period of
its phase (log entry 30). -/
theorem holdsAtPoint_iff (ps : List Int) (v : Speed) (r : Int) :
    (mustStop ps v.vRef r || (v.pointFresh && v.atPoint r)) = true
      ↔ (v.vRef ≠ 0 ∧ v.vRef.sign = -r.sign)
        ∨ mag r ≤ truncDiv (v.vRef * v.vRef) (2 * paramOf ps Param.accelLimit) + truncDiv (mag v.vRef) 1000
        ∨ (v.pointFresh = true ∧ v.vRef = 0 ∧ if v.mode = .reel then mag r ≤ 2 else r ≤ 2) := by
  rw [Bool.or_eq_true, Bool.and_eq_true, mustStop_iff, atPoint_iff, or_assoc]

theorem nextTarget_point {v : Speed} {point : Int} (h : v.stopPoint = some point) (ps : List Int) (g : Geometry)
    (t : Transport) : v.nextTarget ps g t = v.pointTarget ps g point := by
  unfold Speed.nextTarget
  split
  · next q hq => rw [h] at hq; cases hq; rfl
  · next hq => rw [h] at hq; cases hq

/-- Without a stopping point the generator stands still outside the five driven rows (R45). -/
theorem nextTarget_still {v : Speed} {t : Transport} (h : v.stopPoint = none) (hcreep : t ≠ .measuring .creep)
    (hwind : t ≠ .wind) (hshuttle : t ≠ .shuttle) (hplay : t ≠ .play .running) (hroll : t ≠ .chase .rolling)
    (ps : List Int) (g : Geometry) : v.nextTarget ps g t = 0 := by
  unfold Speed.nextTarget
  simp only [h]

/-- Settles O38: by the stopping point, and without one by the row of the state. -/
theorem generatorTargetByModeAndPoint : Obligations.GeneratorTargetByModeAndPoint := by
  intro ps g t v a b ca cb dir bound ha hb hca hcb hdir hbound
  have bounded (x : Int) : boundedSpeed ps g v.target v.vRef x = x.sign * bound x := by
    rw [boundedSpeed_eq ha hb hca hcb, hbound, hdir]
  refine ⟨fun hp => ⟨?_, ?_, ?_, ?_, fun h1 h2 h3 h4 h5 => nextTarget_still hp h1 h2 h3 h4 h5 ps g⟩, ?_⟩
  · rintro rfl
    simp only [Speed.nextTarget, hp, bounded]
  · rintro (rfl | rfl) <;> simp only [Speed.nextTarget, hp, bounded]
  · rintro rfl
    simp only [Speed.nextTarget, hp, capstanTarget]
  · rintro rfl
    simp only [Speed.nextTarget, hp, capstanTarget]
  · intro point h r stops hp hh hr hstops
    have remaining : g.remaining point = r := by rw [Geometry.remaining, hh, hr]; rfl
    rw [← holdsAtPoint_iff ps v r] at hstops
    rw [nextTarget_point hp, Speed.pointTarget, remaining]
    refine ⟨fun hs => if_pos (hstops.mp hs), fun hs => ?_⟩
    rw [if_neg (mt hstops.mpr hs)]
    exact ⟨fun hm => by rw [if_pos hm, bounded], fun hm => by rw [if_neg hm]; rfl⟩

/-! ## PROFILE_GENERATOR_PERIOD up to its reports (R43, R44, R46, R51, R58, R176) -/

theorem exec_profileGeneratorPeriod {s : State} (h : Due.extStopCatch ∉ s.due) (w : Switch) :
    exec (.profileGeneratorPeriod w) s = .next (s.generatorPeriod w) := by
  show Host.Outcome.next (s.takeCatches.generatorPeriod w) = _
  rw [takeCatches_of_not_mem h]

/-- The speed unit after steps 1 to 5 of R46. -/
def State.generated (s : State) : Speed := s.speed.measure.generate s.ports.params s.geom s.seq.transport

/-- The overspeed count of a reel after a generator period, and whether it reached its limit (R58). -/
def State.overspeedAfter (s : State) (r : Reel) : Nat × Bool :=
  overspeedTest (s.geom.profile r) (s.generated.reelRate.get r) (s.speed.overspeed.get r)

/-- The tape-out count after a generator period, and whether it reached its limit (R176). -/
def State.tapeOutAfter (s : State) (w : Switch) : Nat × Bool :=
  if s.seq.transport.isForced then (s.prot.tapeOut, false) else countConsecutive 3 (w == .opened) s.prot.tapeOut

/-- A generator period before its completion and rest tests. -/
def State.stepped (w : Switch) (s : State) : State :=
  ((s.generatorStep.testOverspeed .supply).testOverspeed .takeup).sampleSwitch w

theorem generatorPeriod_eq (w : Switch) (s : State) : s.generatorPeriod w = (s.stepped w).generatorTests := rfl

theorem testOverspeed_eq {s : State} {r : Reel} {n : Nat} {full : Bool}
    (h : overspeedTest (s.geom.profile r) (s.speed.reelRate.get r) (s.speed.overspeed.get r) = (n, full)) :
    s.testOverspeed r
      = { s with
          speed := { s.speed with overspeed := s.speed.overspeed.set r n }
          due := s.due ++ if full then [.overspeed r] else [] } := by
  simp [State.testOverspeed, h, raiseDue_eq, State.setDue, State.setSpeed]

theorem sampleSwitch_eq (w : Switch) (s : State) :
    s.sampleSwitch w
      = { s with
          prot := { s.prot with tapeOut := (s.tapeOutAfter w).1 }, tapePath := w
          due := s.due ++ if (s.tapeOutAfter w).2 then [.tapeOut] else [] } := by
  unfold State.sampleSwitch State.tapeOutAfter
  cases h : s.seq.transport.isForced <;>
    simp [State.readSwitch, h, raiseDue_eq, State.setDue, State.setTapeOut]

/-- What a generator period does before its reports. -/
theorem stepped_eq (w : Switch) (s : State) :
    s.stepped w
      = { s with
          speed := { s.generated with overspeed := ⟨(s.overspeedAfter .supply).1, (s.overspeedAfter .takeup).1⟩ }
          prot := { s.prot with tapeOut := (s.tapeOutAfter w).1 }
          tapePath := w
          due := s.due ++ (if (s.overspeedAfter .supply).2 then [.overspeed .supply] else [])
            ++ (if (s.overspeedAfter .takeup).2 then [.overspeed .takeup] else [])
            ++ (if (s.tapeOutAfter w).2 then [.tapeOut] else []) } := by
  have supply := testOverspeed_eq (s := s.generatorStep) (r := .supply) (n := (s.overspeedAfter .supply).1)
    (full := (s.overspeedAfter .supply).2) rfl
  have takeup := testOverspeed_eq (s := s.generatorStep.testOverspeed .supply) (r := .takeup)
    (n := (s.overspeedAfter .takeup).1) (full := (s.overspeedAfter .takeup).2) (by rw [supply]; rfl)
  rw [State.stepped, sampleSwitch_eq, takeup, supply]
  rfl

/-! ## What a generator period forms and counts (R43, R44, R46, R51, R58, R176) -/

theorem isForced_iff (t : Transport) : t.isForced = true ↔ t = .unthreaded ∨ t = .faulted := by
  cases t <;> simp [Transport.isForced]

/-- The reference after a period, spelt (R46, R51). -/
theorem generated_vRef {s : State} {target step : Int}
    (ht : target = s.speed.nextTarget s.ports.params s.geom s.seq.transport)
    (hs : step = (if s.seq.transport = .protectStop then roundDiv (paramOf s.ports.params Param.protectDecel) 1000
      else roundDiv (paramOf s.ports.params Param.accelLimit) 1000)) :
    s.generated.vRef = if mag (target - s.speed.vRef) ≤ step then target
      else if s.speed.vRef < target then s.speed.vRef + step else s.speed.vRef - step := by
  subst ht hs
  rfl

/-- A reel with no profile is not tested (R58). -/
theorem overspeedAfter_unbound {s : State} {r : Reel} (h : s.geom.profile r = none) :
    s.overspeedAfter r = (s.speed.overspeed.get r, false) := by
  rw [State.overspeedAfter, h]
  rfl

/-- The overspeed count of a bound reel, spelt (R58). -/
theorem overspeedAfter_bound {s : State} {r : Reel} {p : Profile} (h : s.geom.profile r = some p) :
    s.overspeedAfter r
      = (if truncDiv (p.nmax * 9) 8 < mag (s.generated.reelRate.get r)
          then (if s.speed.overspeed.get r + 1 = 5 then 0 else s.speed.overspeed.get r + 1) else 0,
          decide (truncDiv (p.nmax * 9) 8 < mag (s.generated.reelRate.get r) ∧ s.speed.overspeed.get r + 1 = 5)) := by
  rw [State.overspeedAfter, h]
  exact countConsecutive_eq ..

/-- The tape-out count, spelt (R176). -/
theorem tapeOutAfter_eq (s : State) (w : Switch) :
    s.tapeOutAfter w
      = (if s.seq.transport = .unthreaded ∨ s.seq.transport = .faulted then s.prot.tapeOut
          else if w = .opened then (if s.prot.tapeOut + 1 = 3 then 0 else s.prot.tapeOut + 1) else 0,
          decide (s.seq.transport ≠ .unthreaded ∧ s.seq.transport ≠ .faulted ∧ w = .opened ∧ s.prot.tapeOut + 1 = 3)) := by
  have count := countConsecutive_eq 3 s.prot.tapeOut (w = .opened)
  have opened : (w == .opened) = decide (w = .opened) := by cases w <;> rfl
  rw [State.tapeOutAfter, opened, count]
  by_cases h : s.seq.transport.isForced = true
  · rw [if_pos h, if_pos ((isForced_iff _).mp h)]
    rcases (isForced_iff _).mp h with h | h <;> simp [h]
  · rw [if_neg h]
    rw [isForced_iff] at h
    rw [if_neg h]
    simp [not_or.mp h]

section Stepped

variable (w : Switch) (s : State)

@[simp] theorem stepped_geom : (s.stepped w).geom = s.geom := by rw [stepped_eq]
@[simp] theorem stepped_seq : (s.stepped w).seq = s.seq := by rw [stepped_eq]
@[simp] theorem stepped_arb : (s.stepped w).arb = s.arb := by rw [stepped_eq]
@[simp] theorem stepped_map : (s.stepped w).map = s.map := by rw [stepped_eq]
@[simp] theorem stepped_marks : (s.stepped w).marks = s.marks := by rw [stepped_eq]
@[simp] theorem stepped_locate : (s.stepped w).locate = s.locate := by rw [stepped_eq]
@[simp] theorem stepped_ports : (s.stepped w).ports = s.ports := by rw [stepped_eq]

theorem stepped_speed : (s.stepped w).speed
    = { s.generated with overspeed := ⟨(s.overspeedAfter .supply).1, (s.overspeedAfter .takeup).1⟩ } := by
  rw [stepped_eq]

theorem stepped_prot : (s.stepped w).prot = { s.prot with tapeOut := (s.tapeOutAfter w).1 } := by rw [stepped_eq]

theorem stepped_due : (s.stepped w).due
    = s.due ++ (if (s.overspeedAfter .supply).2 then [.overspeed .supply] else [])
      ++ (if (s.overspeedAfter .takeup).2 then [.overspeed .takeup] else [])
      ++ (if (s.tapeOutAfter w).2 then [.tapeOut] else []) := by
  rw [stepped_eq]

/-- A generator period writes no other unit before its reports. -/
theorem stepped_frame : s.stepped w
    = { s with speed := (s.stepped w).speed, prot := (s.stepped w).prot, tapePath := w, due := (s.stepped w).due } := by
  rw [stepped_eq]

theorem stepped_overspeed (r : Reel) : (s.stepped w).speed.overspeed.get r = (s.overspeedAfter r).1 := by
  rw [stepped_speed]
  cases r <;> rfl

end Stepped

/-! ## The reports of a generator period (R48, R52) -/

/-- The completion test of R48, spelt. -/
theorem pointReached_iff (g : Geometry) (v : Speed) :
    v.pointReached g = true
      ↔ ∃ point, v.stopPoint = some point ∧ v.pointReported = false ∧ v.vRef = 0
        ∧ if v.mode = .reel then mag (point - g.head.getD 0) ≤ 2 else point - g.head.getD 0 ≤ 2 := by
  unfold Speed.pointReached
  cases v.stopPoint with
  | none => simp
  | some point =>
    simp only [Bool.and_eq_true, Bool.not_eq_true', atPoint_iff, Geometry.remaining, Option.some.injEq, exists_eq_left']

/-- The rest test of R52, spelt. -/
theorem restReached_iff (v : Speed) :
    v.restReached = true ↔ v.mode = .deceleration ∧ v.restReported = false ∧ v.vRef = 0 ∧ mag v.vMeas ≤ 62 := by
  simp [Speed.restReached, and_assoc]

/-- A stopping point is reported in the period whose reference comes to 0 near it (R48). -/
theorem stepped_pointReached_iff (w : Switch) (s : State) :
    (s.stepped w).speed.pointReached (s.stepped w).geom = true
      ↔ ∃ point, s.speed.stopPoint = some point ∧ s.speed.pointReported = false ∧ s.generated.vRef = 0
        ∧ if s.speed.mode = .reel then mag (point - s.geom.head.getD 0) ≤ 2 else point - s.geom.head.getD 0 ≤ 2 := by
  rw [stepped_speed, stepped_geom]
  exact pointReached_iff ..

/-- Rest is reported in the period whose reference comes to 0 with the tape at rest (R52). -/
theorem stepped_restReached_iff (w : Switch) (s : State) :
    (s.stepped w).speed.restReached = true
      ↔ s.speed.mode = .deceleration ∧ s.speed.restReported = false ∧ s.generated.vRef = 0
        ∧ mag s.generated.vMeas ≤ 62 := by
  rw [stepped_speed]
  exact restReached_iff ..

/-- A stopping point reached is marked as reported and handed to the locate unit (R48). -/
theorem generatorTests_point {s : State} (h : s.speed.pointReached s.geom = true) :
    s.generatorTests = (s.setSpeed { s.speed with pointReported := true }).pointReached := by
  rw [State.generatorTests, if_pos h]

/-- Rest reached is marked as reported and handed to the sequencer (R52). -/
theorem generatorTests_rest {s : State} (hp : s.speed.pointReached s.geom = false) (h : s.speed.restReached = true) :
    s.generatorTests = (s.setSpeed { s.speed with restReported := true }).restReached := by
  rw [State.generatorTests, if_neg (by simp [hp]), if_pos h]

theorem generatorTests_none {s : State} (hp : s.speed.pointReached s.geom = false) (h : s.speed.restReached = false) :
    s.generatorTests = s := by
  rw [State.generatorTests, if_neg (by simp [hp]), if_neg (by simp [h])]

/-- A period that reports nothing (R48, R52). -/
theorem generatorPeriod_quiet {s : State} {w : Switch}
    (hpoint : ∀ point, s.speed.stopPoint = some point → s.speed.pointReported = true ∨ s.generated.vRef ≠ 0
      ∨ if s.speed.mode = .reel then 2 < mag (point - s.geom.head.getD 0) else 2 < point - s.geom.head.getD 0)
    (hrest : s.speed.mode ≠ .deceleration ∨ s.speed.restReported = true ∨ s.generated.vRef ≠ 0
      ∨ 62 < mag s.generated.vMeas) : s.generatorPeriod w = s.stepped w := by
  rw [generatorPeriod_eq, generatorTests_none]
  · rw [Bool.eq_false_iff, ne_eq, stepped_pointReached_iff]
    rintro ⟨point, stop, reported, zero, near⟩
    have far := hpoint point stop
    simp only [reported, zero, Bool.false_eq_true, ne_eq, not_true, false_or] at far
    split at far <;> simp_all [not_le.mpr far]
  · rw [Bool.eq_false_iff, ne_eq, stepped_restReached_iff]
    rintro ⟨mode, reported, zero, slow⟩
    simp [mode, reported, zero, not_lt.mpr slow] at hrest

/-- Settles O37: neither test is met, so the period is its steps and counts. -/
theorem generatorPeriodStepsReference : Obligations.GeneratorPeriodStepsReference := by
  intro w s target step vRef vMeas hc htarget hstep hvRef hvMeas hpoint hrest
  rw [← generated_vRef htarget hstep] at hvRef
  subst htarget hvRef hvMeas
  refine ⟨s.stepped w, ?_, ?_⟩
  · rw [exec_profileGeneratorPeriod hc, generatorPeriod_quiet (fun point hp => hpoint point _ hp rfl) hrest]
  have frame := stepped_frame w s
  have overspeed := stepped_overspeed w s
  have prot := stepped_prot w s
  have due := stepped_due w s
  have full {hit : Bool} {r : Reel} (h : hit = (s.geom.profile r).any (fun p =>
      decide (truncDiv (p.nmax * 9) 8 < mag (s.generated.reelRate.get r))
        && decide (s.speed.overspeed.get r + 1 = 5))) : (s.overspeedAfter r).2 = hit := by
    rw [h]
    cases hp : s.geom.profile r with
    | none => rw [overspeedAfter_unbound hp]; rfl
    | some p => rw [overspeedAfter_bound hp]; simp
  rw [stepped_speed] at frame overspeed ⊢
  refine ⟨rfl, rfl, rfl, rfl, rfl, rfl, rfl, rfl, rfl, rfl, rfl, rfl, rfl, fun r => by cases r <;> exact ⟨rfl, rfl, rfl⟩, rfl,
    rfl, rfl, rfl, rfl, frame, fun r => ?_, ?_, fun hit hhit => ?_⟩
  · rw [overspeed]
    split
    · next hp => rw [overspeedAfter_unbound hp]
    · next p hp => rw [overspeedAfter_bound hp]
  · rw [prot, tapeOutAfter_eq]
  · simp only [due, full (hhit .supply), full (hhit .takeup), tapeOutAfter_eq, decide_eq_true_eq]

/-! ## Rest reached (R52, R67, R71, R75, R77, R96, R101) -/

/-- With nothing held an entry to UNTHREADING is the change of state alone (R80, R93). -/
theorem enterUnthreading_quiet {s : State} (h : s.arb.slot = none) :
    s.enterUnthreading = s.setTransport .unthreading none := by
  have hs : (s.setTransport .unthreading none).arb.slot = none := h
  rw [State.enterUnthreading, State.dropPending, hs]

/-- A change to another state or phase releases the stopping point, with no report made for the next (R48, R52). -/
theorem onChange_reports {old new : Transport} (v : Speed) (h : old ≠ new) :
    (v.onChange old new).stopPoint = none ∧ (v.onChange old new).pointReported = false
      ∧ (v.onChange old new).restReported = false := by
  rw [Speed.onChange, if_neg h]
  split_ifs <;> exact ⟨rfl, rfl, rfl⟩

section RestReached

variable {s : State}

theorem restReached_braking (h : s.seq.transport = .play .braking) :
    s.restReached = s.setTransport (.play .engage) none := by
  rw [State.restReached, h]

theorem restReached_creepStop_settling (h : s.seq.transport = .measuring .creepStop)
    (hd : s.seq.restDest = some .settling) : s.restReached = s.setTransport .settling none := by
  simp only [State.restReached, h, hd]

theorem restReached_creepStop_unthreading (h : s.seq.transport = .measuring .creepStop)
    (hd : s.seq.restDest = some .unthreading) (hs : s.arb.slot = none) :
    s.restReached = s.setTransport .unthreading none := by
  simp only [State.restReached, h, hd, enterUnthreading_quiet hs]

theorem restReached_halting_unthreading (h : s.seq.transport = .halting)
    (hd : s.seq.restDest = some .unthreading) (hs : s.arb.slot = none) :
    s.restReached = s.setTransport .unthreading none := by
  simp only [State.restReached, h, hd, enterUnthreading_quiet hs]

theorem restReached_halting_stopped (h : s.seq.transport = .halting) (hd : s.seq.restDest = some .stopped) :
    s.restReached = s.enterStopped := by
  simp only [State.restReached, h, hd]

theorem restReached_halting_chase (h : s.seq.transport = .halting) (hd : s.seq.restDest = some .chaseParked) :
    s.restReached = s.enterChase .parked s.recordLevel := by
  simp only [State.restReached, h, hd, State.chaseFromRest]

theorem restReached_protectStop (h : s.seq.transport = .protectStop) :
    s.restReached = (s.raise .protectedStop).enterStopped := by
  rw [State.restReached, h]

theorem restReached_releasing (h : s.seq.transport = .chase .releasing) : s.restReached = s.enterStopped := by
  rw [State.restReached, h]

end RestReached

/-- What a rest that is reached leaves in every state: the profiles, the marks, the parameters, the stop report and the return
list, and a report that stands as made exactly while the state stands. -/
structure RestFrame (s t : State) : Prop where
  stays : t.seq.transport = s.seq.transport → t = s
  moves : t.seq.transport ≠ s.seq.transport → t.speed.restReported = false ∧ t.speed.stopPoint = none
  profiles : t.geom.profiles = s.geom.profiles
  marks : t.marks = s.marks
  params : t.ports.params = s.ports.params
  report : t.prot.report = s.prot.report
  returns : t.arb.returns = s.arb.returns

theorem RestFrame.refl (s : State) : RestFrame s s := ⟨fun _ => rfl, fun h => absurd rfl h, rfl, rfl, rfl, rfl, rfl⟩

/-- One change to another state, with changes to the arbiter, the flags and the chase ratio beside it. -/
theorem RestFrame.ofChange {s t : State} {new : Transport} (h : s.seq.transport ≠ new) (transport : t.seq.transport = new)
    (geom : t.geom = s.geom.onChange s.seq.transport new)
    (speed : ∃ ratio, t.speed = { s.speed.onChange s.seq.transport new with chaseRatio := ratio })
    (marks : t.marks = s.marks) (params : t.ports.params = s.ports.params) (report : t.prot.report = s.prot.report)
    (returns : t.arb.returns = s.arb.returns) : RestFrame s t := by
  obtain ⟨ratio, hv⟩ := speed
  obtain ⟨stop, -, rest⟩ := onChange_reports s.speed h
  obtain ⟨profiles, -⟩ := setTransport_profiles s new none
  refine ⟨fun e => absurd (e.symm.trans transport) h, fun _ => ?_, by rw [geom]; exact profiles, marks, params, report,
    returns⟩
  rw [hv]
  exact ⟨rest, stop⟩

theorem setTransport_restFrame {s : State} {new : Transport} (d : Option RestDest) (h : s.seq.transport ≠ new) :
    RestFrame s (s.setTransport new d) :=
  .ofChange h rfl rfl ⟨_, rfl⟩ rfl rfl rfl rfl

theorem enterStopped_restFrame {s : State} (h : s.seq.transport ≠ .stopped) (hc : s.arb.chase ≠ .waiting)
    (hs : s.arb.slot = none) : RestFrame s s.enterStopped := by
  rw [enterStopped_quiet hc hs]
  exact .ofChange h rfl rfl ⟨_, rfl⟩ rfl rfl rfl rfl

theorem enterChase_restFrame {s : State} (l : Int) (h : s.seq.transport ≠ .chase .parked) :
    RestFrame s (s.enterChase .parked l) := by
  unfold State.enterChase
  refine .ofChange h ?_ ?_ ⟨4096, ?_⟩ ?_ ?_ ?_ ?_
  · rw [noteStart_seq]; rfl
  · rw [noteStart_geom]; rfl
  · rw [noteStart_speed]; rfl
  · rw [noteStart_marks]; rfl
  · rw [noteStart_ports]; rfl
  · rw [noteStart_prot]; rfl
  · rw [noteStart_arb]; rfl

/-- Every rest with nothing waiting to be judged: the state stands, or one change leads to the destination. -/
theorem restReached_frame {s : State} (hc : s.arb.chase ≠ .waiting) (hs : s.arb.slot = none) :
    RestFrame s s.restReached := by
  unfold State.restReached
  split
  · next ht =>
    split
    · exact setTransport_restFrame _ (by simp [ht])
    · rw [enterUnthreading_quiet hs]
      exact setTransport_restFrame _ (by simp [ht])
    · exact .refl s
  · next ht => exact setTransport_restFrame _ (by simp [ht])
  · next ht =>
    split
    · exact enterStopped_restFrame (by simp [ht]) hc hs
    · rw [enterUnthreading_quiet hs]
      exact setTransport_restFrame _ (by simp [ht])
    · exact enterChase_restFrame _ (by simp [ht])
    · exact .refl s
  · next ht =>
    rw [enterStopped_quiet (s := s.raise .protectedStop) hc hs]
    exact .ofChange (new := .stopped) (by simp [ht]) rfl rfl ⟨_, rfl⟩ rfl rfl rfl rfl
  · next ht => exact enterStopped_restFrame (by simp [ht]) hc hs
  · exact .refl s

/-- The state in which a period hands its report of rest to the sequencer. -/
def State.restNoted (w : Switch) (s : State) : State :=
  (s.stepped w).setSpeed { (s.stepped w).speed with restReported := true }

/-- A period that reports rest (R52). -/
theorem generatorPeriod_rest {s : State} {w : Switch} (hv : s.generated.vRef = 0) (hm : s.speed.mode = .deceleration)
    (hr : s.speed.restReported = false) (hs : mag s.generated.vMeas ≤ 62)
    (hp : ∀ point, s.speed.stopPoint = some point → s.speed.pointReported = true ∨ 2 < point - s.geom.head.getD 0) :
    s.generatorPeriod w = (s.restNoted w).restReached := by
  rw [generatorPeriod_eq]
  refine generatorTests_rest ?_ ((stepped_restReached_iff w s).mpr ⟨hm, hr, hv, hs⟩)
  rw [Bool.eq_false_iff, ne_eq, stepped_pointReached_iff]
  rintro ⟨point, stop, reported, -, near⟩
  rw [if_neg (by simp [hm])] at near
  rcases hp point stop with h | h
  · exact Bool.false_ne_true (reported.symm.trans h)
  · exact absurd near (not_le.mpr h)

/-- Settles O39: the report of rest, destination by destination. -/
theorem restReachedEntersDestination : Obligations.RestReachedEntersDestination := by
  intro w s target step vMeas hc htarget hstep hvRef hvMeas hmode hrest hslow hpoint hch hslot
  rw [← generated_vRef htarget hstep] at hvRef
  subst hvMeas
  refine ⟨_, exec_profileGeneratorPeriod hc w, ?_⟩
  rw [generatorPeriod_rest hvRef hmode hrest hslow hpoint]
  have noted : (s.restNoted w).speed.restReported = true := rfl
  have geom : (s.restNoted w).geom = s.geom := stepped_geom w s
  have seq : (s.restNoted w).seq = s.seq := stepped_seq w s
  have arb : (s.restNoted w).arb = s.arb := stepped_arb w s
  have marks : (s.restNoted w).marks = s.marks := stepped_marks w s
  have ports : (s.restNoted w).ports = s.ports := stepped_ports w s
  have report : (s.restNoted w).prot.report = s.prot.report := by
    show (s.stepped w).prot.report = _
    rw [stepped_prot]
  generalize s.restNoted w = u at noted geom seq arb marks ports report ⊢
  rw [← arb] at hch hslot
  rw [← geom, ← seq, ← arb, ← marks, ← ports, ← report]
  have frame := restReached_frame hch hslot
  refine ⟨fun h => by rw [frame.stays h]; exact noted, frame.moves, fun ht => ?_, fun ht hd => ?_, fun ht hd => ?_,
    fun ht hd => ?_, fun ht hd => ?_, fun m ht hd hm => ?_, fun ht => ?_, fun ht => ?_, frame.profiles, frame.marks,
    frame.params, frame.report, frame.returns⟩
  · rw [restReached_braking ht]
    exact ⟨rfl, by simp [State.setTransport, Sequencer.onChange, ht], rfl⟩
  · rw [restReached_creepStop_settling ht hd]
    exact ⟨rfl, by rw [setTransport_geom, ht]; rfl, by simp [State.setTransport, Sequencer.onChange, ht, State.param], rfl⟩
  · rw [restReached_creepStop_unthreading ht hd hslot]
    exact ⟨rfl, by rw [setTransport_geom, ht]; rfl, rfl, rfl⟩
  · rw [restReached_halting_stopped ht hd, enterStopped_quiet hch hslot]
    exact ⟨rfl, rfl, rfl⟩
  · rw [restReached_halting_unthreading ht hd hslot]
    exact ⟨rfl, rfl, rfl⟩
  · rw [restReached_halting_chase ht hd]
    simp only [State.enterChase, State.recordLevel, hm, noteStart_seq, noteStart_speed, noteStart_arb]
    exact ⟨rfl, rfl, rfl, rfl, rfl⟩
  · rw [restReached_protectStop ht, enterStopped_quiet (s := u.raise .protectedStop) hch hslot]
    exact ⟨rfl, rfl, fun p => by simp [raise_has]⟩
  · rw [restReached_releasing ht, enterStopped_quiet hch hslot]
    exact ⟨rfl, rfl, rfl, fun hr => by simp [Arbiter.afterRelease, hr]⟩

/-! ## What follows a stopping point reached (R84 to R104, R159 to R168)

The report hands the locate on, and a completed locate enters STOPPED, where a waiting chase and a held request may start a
motion. All of it leaves the marks and the head length, and no report stands as made for the stopping point that follows. -/

/-- The marks and the head length as given, no report of a stopping point standing as made, outside MEASURING. -/
structure PointFrame (ms : List Mark) (h : Option Int) (t : State) : Prop where
  marks : t.marks = ms
  head : t.geom.head = h
  reported : t.speed.pointReported = false
  measuring : t.seq.transport.isMeasuring = false

/-- The first change of state or phase after the report. -/
theorem setTransport_pointFrame {s : State} {new : Transport} (d : Option RestDest)
    (hm : s.seq.transport.isMeasuring = false) (hne : s.seq.transport ≠ new) (hn : new ≠ .unthreaded)
    (hnm : new.isMeasuring = false) : PointFrame s.marks s.geom.head (s.setTransport new d) := by
  obtain ⟨-, reported, -⟩ := onChange_reports s.speed hne
  exact ⟨rfl, setTransport_head d hm hn, reported, hnm⟩

section PointFrame

variable {ms : List Mark} {l : Option Int} {s : State} (hs : PointFrame ms l s)
include hs

/-- A change beside the marks, the geometry unit, the transport and the report. -/
theorem PointFrame.beside {t : State} (marks : t.marks = s.marks) (geom : t.geom = s.geom)
    (reported : t.speed.pointReported = s.speed.pointReported) (seq : t.seq = s.seq) : PointFrame ms l t :=
  ⟨marks.trans hs.marks, (congrArg Geometry.head geom).trans hs.head, reported.trans hs.reported, by
    rw [seq]; exact hs.measuring⟩

theorem PointFrame.setTransport {new : Transport} (d : Option RestDest) (hn : new ≠ .unthreaded)
    (hm : new.isMeasuring = false) : PointFrame ms l (s.setTransport new d) := by
  refine ⟨hs.marks, (setTransport_head d hs.measuring hn).trans hs.head, ?_, hm⟩
  by_cases h : s.seq.transport = new
  · rw [setTransport_speed, Speed.onChange, if_pos h]
    exact hs.reported
  · obtain ⟨-, reported, -⟩ := onChange_reports s.speed h
    exact reported

theorem PointFrame.setLocate (r : LocateRecord) : PointFrame ms l (s.setLocate r) := hs.beside rfl rfl rfl rfl

theorem PointFrame.setActive (m : Option Motion) : PointFrame ms l (s.setActive m) := hs.beside rfl rfl rfl rfl

theorem PointFrame.setRatio (ratio : Int) : PointFrame ms l (s.setRatio ratio) := hs.beside rfl rfl rfl rfl

theorem PointFrame.setRecord (m : Motion) : PointFrame ms l (s.setRecord m) := hs.beside rfl rfl rfl rfl

theorem PointFrame.setChase (c : ChaseState) : PointFrame ms l (s.setChase c) := hs.beside rfl rfl rfl rfl

theorem PointFrame.noteStart (k : MotionKind) : PointFrame ms l (s.noteStart k) :=
  hs.beside (by simp) (by simp) (by simp) (by simp)

theorem PointFrame.headToward (first : Bool) (point : Int) : PointFrame ms l (s.headToward first point) :=
  ⟨hs.marks, hs.head, rfl, hs.measuring⟩

/-! ### Locates -/

theorem PointFrame.locateTransport (inChase : Bool) (p : LocatePhase) :
    PointFrame ms l (s.setTransport (locateTransport inChase p) none) := by
  cases inChase <;> exact hs.setTransport none (by simp [Machine.locateTransport]) rfl

theorem PointFrame.choosePhase (inChase : Bool) (back : LocatePhase) (r : LocateRecord) :
    PointFrame ms l (s.choosePhase inChase back r) := by
  unfold State.choosePhase
  split
  · exact ((hs.locateTransport inChase .approach).setLocate _).headToward ..
  · exact ((hs.locateTransport inChase back).setLocate _).headToward ..

theorem PointFrame.startLocate (inChase : Bool) (target : LocateTarget) :
    PointFrame ms l (s.startLocate inChase target) := hs.choosePhase ..

/-! ### The chase (R95, R96) -/

theorem PointFrame.enterChase (p : ChasePhase) (level : Int) : PointFrame ms l (s.enterChase p level) := by
  have entered := ((hs.setRecord { kind := .chase, source := .chase, level := level }).setChase .granted).setTransport
    (new := .chase p) none (by simp) rfl
  exact (entered.setRatio 4096).noteStart .chase

theorem PointFrame.grantChase : PointFrame ms l s.grantChase := by
  have ended : PointFrame ms l ((s.raiseIf s.otherSource .preempted).endLocate .preempted) :=
    hs.beside (by simp) (by simp) (by simp) (by simp)
  unfold State.grantChase
  dsimp only
  split
  · exact ended.enterChase ..
  · exact ended.enterChase ..
  · exact ((ended.setRecord _).setChase _).setTransport (new := .halting) _ (by simp) rfl

theorem PointFrame.examineChase : PointFrame ms l s.examineChase := by
  unfold State.examineChase
  split
  · exact hs.grantChase
  · exact hs

/-! ### Starting a motion (R80, R89) -/

theorem PointFrame.startUnthread : PointFrame ms l s.startUnthread := by
  have halts := hs.setTransport (new := .halting) (some .unthreading) (by simp) rfl
  have enters : PointFrame ms l s.enterUnthreading :=
    (hs.setTransport (new := .unthreading) none (by simp) rfl).beside (by simp [State.enterUnthreading])
      (by simp [State.enterUnthreading]) (by simp [State.enterUnthreading]) (by simp [State.enterUnthreading])
  unfold State.startUnthread
  split
  case h_4 p ht => exact absurd (ht ▸ hs.measuring) (by simp [Transport.isMeasuring])
  case h_5 => split <;> assumption
  all_goals assumption

theorem PointFrame.startPlay (how : StartKind) : PointFrame ms l (s.startPlay how) := by
  unfold State.startPlay
  split
  · exact hs
  · exact hs.setTransport none (by simp) rfl

theorem PointFrame.handOver (how : StartKind) {h : Held} (ht : ∀ a b, h.req ≠ .thread a b) (hc : h.req ≠ .clearFault) :
    PointFrame ms l (s.handOver how h) := by
  unfold State.handOver
  split
  case h_9 a b e => exact absurd e (ht a b)
  case h_11 e => exact absurd e hc
  case h_2 => exact hs.startPlay how
  case h_10 => exact hs.startUnthread
  case h_12 => exact hs
  case h_1 => exact hs.setTransport _ (by simp) rfl
  case h_3 | h_4 => exact (hs.setTransport none (by simp) rfl).beside rfl rfl rfl rfl
  all_goals exact hs.startLocate ..

theorem PointFrame.start (how : StartKind) {h : Held} (ht : ∀ a b, h.req ≠ .thread a b) (hc : h.req ≠ .clearFault) :
    PointFrame ms l (s.start how h) := by
  have begun : PointFrame ms l (((s.beginStart how).endLocate how.locateOutcome).pushReturn h.req) :=
    hs.beside (by simp) (by simp) (by simp) (by simp)
  exact (((begun.setRecord _).handOver how ht hc).noteStart _).examineChase

theorem PointFrame.tryStart (how : StartKind) {h : Held} (ht : ∀ a b, h.req ≠ .thread a b) (hc : h.req ≠ .clearFault) :
    PointFrame ms l (s.tryStart how h).1 := by
  unfold State.tryStart
  split
  · exact hs
  · exact hs.start how ht hc

/-! ### Judging (R92, R98, R100) -/

theorem PointFrame.panelInChase {h : Held} (ht : ∀ a b, h.req ≠ .thread a b) (hc : h.req ≠ .clearFault) :
    PointFrame ms l (s.panelInChase h).1 := by
  unfold State.panelInChase
  split
  · exact hs.tryStart _ ht hc
  · exact hs.beside (by simp [State.hold]) (by simp [State.hold]) (by simp [State.hold]) (by simp [State.hold])

theorem PointFrame.chasePhase (p : ChasePhase) : PointFrame ms l (s.chasePhase p) := by
  have ended : PointFrame ms l (s.endLocate .replaced) := hs.beside (by simp) (by simp) (by simp) (by simp)
  exact ended.setTransport none (by simp) rfl

theorem PointFrame.chaseLocate (h : Held) : PointFrame ms l (s.chaseLocate h).1 := by
  have pushed : PointFrame ms l ((s.endLocate .replaced).pushReturn h.req) :=
    hs.beside (by simp) (by simp) (by simp) (by simp)
  unfold State.chaseLocate
  split
  · exact hs
  · exact pushed.startLocate ..

theorem PointFrame.studioInChase (p : ChasePhase) (h : Held) : PointFrame ms l (s.studioInChase p h).1 := by
  have rolling := hs.chasePhase .rolling
  have parked := hs.chasePhase .parked
  unfold State.studioInChase
  split
  · exact hs.beside (by simp) (by simp) (by simp [State.chaseSpeed]) (by simp)
  · unfold State.chasePlay
    split
    · split <;> assumption
    all_goals assumption
  · unfold State.chaseStop
    split <;> assumption
  case h_4 | h_5 | h_6 | h_7 =>
    split
    · exact hs
    · exact hs.chaseLocate h
  all_goals exact hs

/-- A request that passes its tests in STOPPED or in CHASE is no THREAD and no CLEAR_FAULT (R64). -/
theorem PointFrame.judgeHeld (ht : s.seq.transport = .stopped ∨ ∃ p, s.seq.transport = .chase p) (h : Held) :
    PointFrame ms l (s.judgeHeld h).1 := by
  unfold State.judgeHeld
  split
  · exact hs
  · next passes =>
    have valid : h.req.validIn s.seq.transport = true := by
      unfold State.admission at passes
      split at passes
      · cases passes
      · next hv => exact (by simpa using hv : _ ∧ _).1
    have thread : ∀ a b, h.req ≠ .thread a b := by
      rintro a b e
      rcases ht with ht | ⟨p, ht⟩ <;> simp [e, ht, MotionReq.validIn] at valid
    have clear : h.req ≠ .clearFault := by
      rintro e
      rcases ht with ht | ⟨p, ht⟩ <;> simp [e, ht, MotionReq.validIn] at valid
    rcases ht with ht | ⟨p, ht⟩
    · simp only [State.judge, ht]
      split
      · exact hs
      · exact hs.tryStart _ thread clear
    · simp only [State.judge, ht]
      split
      · exact hs.studioInChase p h
      · exact hs.panelInChase thread clear

theorem PointFrame.judgeSlot (ht : s.seq.transport = .stopped ∨ ∃ p, s.seq.transport = .chase p) :
    PointFrame ms l s.judgeSlot := by
  unfold State.judgeSlot
  split
  · exact hs
  · next h _ =>
    have judged : PointFrame ms l ((s.setSlot none).judgeHeld h).1 :=
      (hs.beside (t := s.setSlot none) rfl rfl rfl rfl).judgeHeld ht h
    dsimp only
    split
    · exact judged
    · exact judged.beside rfl rfl rfl rfl

end PointFrame

/-- An examination in STOPPED grants the chase or leaves the state (R95, R96). -/
theorem examineChase_stopped {s : State} (h : s.seq.transport = .stopped) :
    s.examineChase.seq.transport = .stopped ∨ ∃ p, s.examineChase.seq.transport = .chase p := by
  unfold State.examineChase
  split
  · have ended : ((s.raiseIf s.otherSource .preempted).endLocate .preempted).seq.transport = .stopped := by simp [h]
    refine .inr ⟨.parked, ?_⟩
    simp only [State.grantChase, ended, State.enterChase, noteStart_seq]
    rfl
  · exact .inl h

/-- An entry to STOPPED from outside it and outside MEASURING, whatever waits there. -/
theorem enterStopped_pointFrame {s : State} (hm : s.seq.transport.isMeasuring = false)
    (hne : s.seq.transport ≠ .stopped) : PointFrame s.marks s.geom.head s.enterStopped := by
  have stopped := setTransport_pointFrame none hm hne (by simp) rfl
  exact ((stopped.setActive none).setChase _).examineChase.judgeSlot (examineChase_stopped rfl)

/-! ## The phases of a locate (R48, R76, R160 to R168) -/

/-- A phase runs in LOCATE or in CHASE LOCATING (R76). -/
theorem eq_locateTransport {t : Transport} {p : LocatePhase} (h : t.locatePhase = some p) :
    t = locateTransport t.isChase p := by
  cases t with
  | locate q => cases h; rfl
  | chase q =>
    cases q with
    | locating q => cases h; rfl
    | _ => cases h
  | _ => cases h

theorem locateTransport_not_measuring (b : Bool) (p : LocatePhase) : (locateTransport b p).isMeasuring = false := by
  cases b <;> rfl

theorem locateTransport_ne_unthreaded (b : Bool) (p : LocatePhase) : locateTransport b p ≠ .unthreaded := by
  cases b <;> simp [locateTransport]

theorem locateTransport_isChase (b : Bool) (p : LocatePhase) : (locateTransport b p).isChase = b := by
  cases b <;> rfl

theorem locatePhase_not_measuring {t : Transport} {p : LocatePhase} (h : t.locatePhase = some p) :
    t.isMeasuring = false := by
  rw [eq_locateTransport h, locateTransport_not_measuring]

theorem ne_locateTransport {t : Transport} {p q : LocatePhase} (h : t.locatePhase = some p) (hpq : p ≠ q) (b : Bool) :
    t ≠ locateTransport b q := by
  rintro rfl
  rw [locateTransport_phase] at h
  cases h
  exact hpq rfl

/-- The reading set holds APPROACH and VERIFY, and neither TRAVEL nor REPOSITION (R108). -/
theorem locateTransport_reading (b : Bool) (p : LocatePhase) :
    (locateTransport b p).reading = decide (p = .approach ∨ p = .verify) := by
  cases b <;> cases p <;> rfl

theorem locateIn_reading (s : State) {p : LocatePhase} (h : p = .approach ∨ p = .verify) :
    (s.locateIn p).reading = true := by
  rw [State.locateIn, locateTransport_reading, decide_eq_true h]

/-! ### The target recomputed (R157, R158) -/

/-- A recompute reads the marks, the spans, the head length and the parameters. -/
theorem recompute_congr {s t : State} (marks : t.marks = s.marks) (map : t.map = s.map)
    (head : t.geom.head = s.geom.head) (params : t.ports.params = s.ports.params) (r : LocateRecord) :
    t.recompute r = s.recompute r := by
  have aim : t.aimOf r.target = s.aimOf r.target := by
    cases r.target <;> simp only [State.aimOf, State.headNow, marks, map, head]
  have offset : t.offsetOf r.offset r.target = s.offsetOf r.offset r.target := by
    cases r.target <;> simp only [State.offsetOf, State.param, marks, params]
  simp only [State.recompute, aim, offset]

/-- What a recompute leaves of the record. -/
theorem recompute_keeps (s : State) (r : LocateRecord) :
    (s.recompute r).target = r.target ∧ (s.recompute r).retries = r.retries ∧ (s.recompute r).limit = r.limit
      ∧ (s.recompute r).lastError = r.lastError := by
  unfold State.recompute
  dsimp only
  split <;> exact ⟨rfl, rfl, rfl, rfl⟩

/-- A recompute over a recomputed record with its retries counted finds the same target. -/
theorem recompute_recomputed (s : State) (r : LocateRecord) (n : Nat) :
    s.recompute { s.recompute r with retries := n } = { s.recompute r with retries := n } := by
  have offset : s.offsetOf (s.offsetOf r.offset r.target) r.target = s.offsetOf r.offset r.target := by
    cases r.target with
    | mark k =>
      simp only [State.offsetOf]
      cases markAt s.marks k <;> rfl
    | _ => rfl
  cases h : s.aimOf r.target <;> simp only [State.recompute, h, offset]

/-- A change of phase within a locate that keeps the map finds the same target. -/
theorem setTransport_recompute {s : State} {p q : LocatePhase} (h : s.seq.transport.locatePhase = some p)
    (hr : s.seq.transport.reading = false ∨ (s.locateIn q).reading = true) (r : LocateRecord) :
    (s.setTransport (s.locateIn q) none).recompute r = s.recompute r :=
  recompute_congr (s := s) (t := s.setTransport (s.locateIn q) none) rfl (setTransport_keeps_map none hr)
    (setTransport_head none (locatePhase_not_measuring h) (locateTransport_ne_unthreaded _ _)) rfl r

/-! ### The hand-over of a report (R48, R160) -/

theorem pointReached_idle {s : State} (h : s.locate.active = none ∨ s.seq.transport.locatePhase = none
    ∨ s.seq.transport.locatePhase = some .verify) : s.pointReached = s := by
  unfold State.pointReached
  split <;> simp_all

theorem pointReached_approach {s : State} {a : LocateRecord} (ha : s.locate.active = some a)
    (hp : s.seq.transport.locatePhase = some .approach) : s.pointReached = s.enterVerify a := by
  simp only [State.pointReached, ha, hp]

theorem pointReached_travel {s : State} {a : LocateRecord} (ha : s.locate.active = some a)
    (hp : s.seq.transport.locatePhase = some .travel ∨ s.seq.transport.locatePhase = some .reposition) :
    s.pointReached = if a.target.verifying then s.enterApproach a else s.completeLocate false := by
  rcases hp with hp | hp <;> simp only [State.pointReached, ha, hp]

/-- VERIFY: the timer runs on the recomputed target (R162). -/
theorem enterVerify_eq {s : State} {a : LocateRecord} (hp : s.seq.transport.locatePhase = some .approach) :
    s.enterVerify a = ((s.setTransport (s.locateIn .verify) none).setLocate (s.recompute a)).startVerifyTimer := by
  rw [State.enterVerify, setTransport_recompute hp (.inr (locateIn_reading s (by simp)))]

/-- The state in which APPROACH heads for its recomputed stopping point or is missed (R161). -/
def State.approaching (q : LocateRecord) (s : State) : State :=
  (s.setTransport (s.locateIn .approach) none).setLocate q

theorem approaching_isChase (q : LocateRecord) (s : State) :
    (s.approaching q).seq.transport.isChase = s.seq.transport.isChase := locateTransport_isChase _ _

/-- A locate that verifies and whose stopping point lies behind the head goes back to its approach point (R159, R165). -/
theorem choosePhase_back {s : State} {r : LocateRecord} {c : Bool} {back : LocatePhase}
    (hv : r.target.verifying = true) (hb : r.stopPoint < s.headNow) :
    s.choosePhase c back r
      = ((s.setTransport (locateTransport c back) none).setLocate r).headToward true
          (r.stopPoint - s.param Param.approachDistance) := by
  have notAtOnce : s.approachAtOnce r = false := by
    simp [State.approachAtOnce, not_le.mpr hb]
  simp [State.choosePhase, notAtOnce, hv, State.approachPoint]

/-- A miss at the retry limit fails (R165). -/
theorem approaching_missLocate_limit {s : State} {a q : LocateRecord} (hq : q = s.recompute { a with newest := none })
    (hl : a.retries = a.limit) : (s.approaching q).missLocate q = (s.approaching q).failLocate .missed := by
  obtain ⟨-, retries, limit, -⟩ := recompute_keeps s { a with newest := none }
  rw [State.missLocate, if_pos (by rw [hq, retries, limit]; exact hl)]

section Approach

variable {s : State} {h : Int} (hh : s.geom.head = some h)
  (hp : s.seq.transport.locatePhase = some .travel ∨ s.seq.transport.locatePhase = some .reposition)
include hp

theorem travel_reading : s.seq.transport.reading = false := by
  rcases hp with hp | hp <;> rw [eq_locateTransport hp, locateTransport_reading] <;> rfl

theorem travel_not_measuring : s.seq.transport.isMeasuring = false := by
  rcases hp with hp | hp <;> exact locatePhase_not_measuring hp

theorem approaching_head (q : LocateRecord) : (s.approaching q).geom.head = s.geom.head :=
  setTransport_head none (travel_not_measuring hp) (locateTransport_ne_unthreaded _ _)

theorem approaching_recompute (q r : LocateRecord) : (s.approaching q).recompute r = s.recompute r :=
  recompute_congr (s := s) (t := s.approaching q) rfl (setTransport_keeps_map none (.inl (travel_reading hp)))
    (approaching_head hp q) rfl r

theorem approaching_pointFrame (q : LocateRecord) : PointFrame s.marks s.geom.head (s.approaching q) := by
  have hne : s.seq.transport ≠ s.locateIn .approach := by
    rcases hp with hp | hp <;> exact ne_locateTransport hp (by simp) _
  exact (setTransport_pointFrame none (travel_not_measuring hp) hne (locateTransport_ne_unthreaded _ _)
    (locateTransport_not_measuring _ _)).setLocate q

include hh

theorem approaching_headNow (q : LocateRecord) : (s.approaching q).headNow = h := by
  rw [State.headNow, approaching_head hp, hh]
  rfl

/-- APPROACH at its entry: missed with its point more than 2 counts behind the head, else headed for (R161). -/
theorem enterApproach_eq {a q : LocateRecord} (hq : q = s.recompute { a with newest := none }) :
    s.enterApproach a = if q.stopPoint < h - 2 then (s.approaching q).missLocate q
      else (s.approaching q).headToward true q.stopPoint := by
  have recompute : (s.setTransport (s.locateIn .approach) none).recompute { a with newest := none } = q := by
    rw [hq]
    rcases hp with hp | hp <;> exact setTransport_recompute hp (.inr (locateIn_reading s (by simp))) _
  rw [State.enterApproach, State.headFor, recompute]
  change (if (s.approaching q).behindHead q then (s.approaching q).missLocate q
    else (s.approaching q).headToward true q.stopPoint) = _
  simp only [State.behindHead, approaching_headNow hh hp, decide_eq_true_eq]

/-- A miss below the retry limit repositions, with one retry more (R165). -/
theorem approaching_missLocate_retry {a q : LocateRecord} (hq : q = s.recompute { a with newest := none })
    (hv : a.target.verifying = true) (hb : q.stopPoint < h - 2) (hl : a.retries ≠ a.limit) :
    (s.approaching q).missLocate q
      = (((s.approaching q).setTransport (locateTransport s.seq.transport.isChase .reposition) none).setLocate
          { q with retries := a.retries + 1 }).headToward true (q.stopPoint - s.param Param.approachDistance) := by
  obtain ⟨target, retries, limit, -⟩ := recompute_keeps s { a with newest := none }
  rw [← hq] at target retries limit
  have retry : s.recompute { q with retries := q.retries + 1 } = { q with retries := a.retries + 1 } := by
    rw [retries, hq]
    exact recompute_recomputed ..
  have behind : q.stopPoint < (s.approaching q).headNow := by rw [approaching_headNow hh hp]; omega
  rw [State.missLocate, if_neg (by rw [retries, limit]; exact hl), approaching_recompute hp, retry, approaching_isChase]
  exact choosePhase_back (r := { q with retries := a.retries + 1 }) (by rw [← hv, ← target]) behind

end Approach

/-- What the failure of a locate leaves (R168). -/
theorem failLocate_spec {s : State} {r : LocateRecord} (o : LocateOutcome) (ha : s.locate.active = some r) :
    (s.failLocate o).seq.transport = (if s.seq.transport.isChase then .chase .parked else .halting)
      ∧ (s.failLocate o).locate.active = none ∧ (∀ p, ((s.failLocate o).ports.port p).has .locateFailed = true)
      ∧ (s.failLocate o).locate.result = some (s.resultOf r o) := by
  have result : (s.endLocate o).locate.result = some (s.resultOf r o) := by simp [State.endLocate, ha]
  unfold State.failLocate
  cases s.seq.transport.isChase <;>
    exact ⟨rfl, endLocate_active s o, fun p => by simp [raise_has], result⟩

theorem PointFrame.failLocate {ms : List Mark} {l : Option Int} {s : State} (hs : PointFrame ms l s)
    (o : LocateOutcome) : PointFrame ms l (s.failLocate o) := by
  have ended : PointFrame ms l ((s.endLocate o).raise .locateFailed) :=
    hs.beside (by simp) (by simp) (by simp) (by simp)
  unfold State.failLocate
  dsimp only
  split
  · exact ended.setTransport none (by simp) rfl
  · exact (ended.setTransport (new := .halting) _ (by simp) rfl).beside rfl rfl rfl rfl

theorem PointFrame.missLocate {ms : List Mark} {l : Option Int} {s : State} (hs : PointFrame ms l s)
    (r : LocateRecord) : PointFrame ms l (s.missLocate r) := by
  unfold State.missLocate
  split
  · exact hs.failLocate _
  · exact hs.choosePhase ..

/-- The state in which a completed locate is handed on, its result written and LOCATE_DONE raised (R167). -/
def State.completed (s : State) : State := ((s.endLocate .unverified).pulseLocated false).raise .locateDone

theorem completeLocate_eq (s : State) :
    s.completeLocate false
      = if s.seq.transport.isChase then s.completed.setTransport (.chase .parked) none else s.completed.enterStopped := rfl

@[simp] theorem completed_marks (s : State) : s.completed.marks = s.marks := by simp [State.completed]
@[simp] theorem completed_geom (s : State) : s.completed.geom = s.geom := by simp [State.completed]
@[simp] theorem completed_seq (s : State) : s.completed.seq = s.seq := by simp [State.completed]
@[simp] theorem completed_arb (s : State) : s.completed.arb = s.arb := by simp [State.completed]

theorem completeLocate_pointFrame {s : State}
    (hp : s.seq.transport.locatePhase = some .travel ∨ s.seq.transport.locatePhase = some .reposition) :
    PointFrame s.marks s.geom.head (s.completeLocate false) := by
  have hm : s.completed.seq.transport.isMeasuring = false := by rw [completed_seq]; exact travel_not_measuring hp
  have hne : ∀ t : Transport, t.locatePhase = none → s.completed.seq.transport ≠ t := by
    rw [completed_seq]
    rintro t ht rfl
    rw [ht] at hp
    simp at hp
  rw [completeLocate_eq, ← completed_marks, ← completed_geom]
  split
  · exact setTransport_pointFrame none hm (hne _ rfl) (by simp) rfl
  · exact enterStopped_pointFrame hm (hne _ rfl)

/-- What the completion of a locate leaves with nothing waiting to be judged (R167). -/
theorem completeLocate_spec {s : State} {a : LocateRecord} (ha : s.locate.active = some a)
    (hc : s.arb.chase ≠ .waiting) (hs : s.arb.slot = none) :
    (s.completeLocate false).seq.transport = (if s.seq.transport.isChase then .chase .parked else .stopped)
      ∧ (s.completeLocate false).locate.active = none
      ∧ (s.completeLocate false).locate.located = s.locate.located
      ∧ (∀ p, ((s.completeLocate false).ports.port p).has .locateDone = true)
      ∧ (s.completeLocate false).locate.result = some (s.resultOf a .unverified) := by
  have active : s.completed.locate.active = none := endLocate_active s _
  have located : s.completed.locate.located = s.locate.located := by simp [State.completed]
  have done : ∀ p, (s.completed.ports.port p).has .locateDone = true := fun p => by simp [State.completed, raise_has]
  have result : s.completed.locate.result = some (s.resultOf a .unverified) := by
    simp [State.completed, State.pulseLocated, State.endLocate, ha]
  rw [completeLocate_eq]
  cases s.seq.transport.isChase
  · rw [if_neg (by simp), enterStopped_quiet (by rw [completed_arb]; exact hc) (by rw [completed_arb]; exact hs)]
    exact ⟨rfl, active, located, done, result⟩
  · exact ⟨rfl, active, located, done, result⟩

/-- Every report that moves a locate on leaves the marks and the head length, with none standing as made. -/
theorem pointReached_pointFrame {s : State} {a : LocateRecord} (ha : s.locate.active = some a)
    (hp : s.seq.transport.locatePhase ≠ none) (hv : s.seq.transport.locatePhase ≠ some .verify) {h : Int}
    (hh : s.geom.head = some h) : PointFrame s.marks s.geom.head s.pointReached := by
  have travel (hp : s.seq.transport.locatePhase = some .travel ∨ s.seq.transport.locatePhase = some .reposition) :
      PointFrame s.marks s.geom.head s.pointReached := by
    rw [pointReached_travel ha hp]
    split
    · rw [enterApproach_eq hh hp rfl]
      split
      · exact (approaching_pointFrame hp _).missLocate _
      · exact (approaching_pointFrame hp _).headToward ..
    · exact completeLocate_pointFrame hp
  match hphase : s.seq.transport.locatePhase with
  | none => exact absurd hphase hp
  | some .verify => exact absurd hphase hv
  | some .travel => exact travel (.inl hphase)
  | some .reposition => exact travel (.inr hphase)
  | some .approach =>
    rw [pointReached_approach ha hphase, enterVerify_eq hphase]
    have verify := setTransport_pointFrame (s := s) none (locatePhase_not_measuring hphase)
      (ne_locateTransport hphase (q := .verify) (by simp) s.seq.transport.isChase) (locateTransport_ne_unthreaded _ _)
      (locateTransport_not_measuring _ _)
    exact (verify.setLocate (s.recompute a)).beside (t := State.startVerifyTimer _) rfl rfl rfl rfl

/-! ## Stopping point reached (R48, R160 to R168) -/

/-- The state in which a period hands its report of a stopping point to the locate unit. -/
def State.pointNoted (w : Switch) (s : State) : State :=
  (s.stepped w).setSpeed { (s.stepped w).speed with pointReported := true }

/-- A period that reports a stopping point (R48). -/
theorem generatorPeriod_point {s : State} {w : Switch} {point h : Int} (hv : s.generated.vRef = 0)
    (hp : s.speed.stopPoint = some point) (hr : s.speed.pointReported = false) (hh : s.geom.head = some h)
    (hn : if s.speed.mode = .reel then mag (point - h) ≤ 2 else point - h ≤ 2) :
    s.generatorPeriod w = (s.pointNoted w).pointReached := by
  rw [generatorPeriod_eq]
  refine generatorTests_point ((stepped_pointReached_iff w s).mpr ⟨point, hp, hr, hv, ?_⟩)
  rw [hh]
  exact hn

theorem pointNoted_frame (w : Switch) (s : State) :
    s.pointNoted w
      = { s with
          speed := (s.pointNoted w).speed, prot := (s.pointNoted w).prot, tapePath := w
          due := (s.pointNoted w).due } := by
  have frame := stepped_frame w s
  unfold State.pointNoted
  rw [frame]
  rfl

/-- Settles O40: the report, phase by phase. -/
theorem stoppingPointReachedMovesLocateOn : Obligations.StoppingPointReachedMovesLocateOn := by
  intro w h point r target step s hc htarget hstep hvRef hpoint hreported hhead hr hnear
  rw [← generated_vRef htarget hstep] at hvRef
  subst hr
  rw [exec_profileGeneratorPeriod hc, generatorPeriod_point hvRef hpoint hreported hhead hnear]
  have noted : (s.pointNoted w).speed.pointReported = true := rfl
  have given : (s.pointNoted w).speed.stopPoint = some point := by
    show (s.stepped w).speed.stopPoint = _
    rw [stepped_speed]
    exact hpoint
  have frame := pointNoted_frame w s
  have seq : (s.pointNoted w).seq = s.seq := stepped_seq w s
  have geom : (s.pointNoted w).geom = s.geom := stepped_geom w s
  have arb : (s.pointNoted w).arb = s.arb := stepped_arb w s
  have map : (s.pointNoted w).map = s.map := stepped_map w s
  have marks : (s.pointNoted w).marks = s.marks := stepped_marks w s
  have locate : (s.pointNoted w).locate = s.locate := stepped_locate w s
  have ports : (s.pointNoted w).ports = s.ports := stepped_ports w s
  refine ⟨fun hidle => ?_, fun a q ha hphase hverify => ?_⟩
  · rw [← seq, ← locate] at hidle
    rw [pointReached_idle hidle]
    exact ⟨_, rfl, noted, given, frame⟩
  have recompute (b : LocateRecord) : s.recompute b = (s.pointNoted w).recompute b :=
    (recompute_congr marks map (by rw [geom]) (by rw [ports]) b).symm
  simp only [recompute]
  generalize s.pointNoted w = u at *
  rw [← geom] at hhead
  rw [← locate] at ha
  rw [← seq] at hphase hverify
  rw [← geom, ← seq, ← arb, ← map, ← marks, ← locate, ← ports]
  have kept := pointReached_pointFrame ha hphase hverify hhead
  refine ⟨_, rfl, kept.marks, kept.head, kept.reported, fun hp hq => ?_,
    fun hp => ⟨fun hv hq => ?_, fun hv hch hslot => ?_⟩⟩
  · rw [pointReached_approach ha hp, enterVerify_eq hp, hq]
    obtain ⟨released, -⟩ := onChange_reports u.speed
      (ne_locateTransport hp (q := .verify) (by simp) u.seq.transport.isChase)
    exact ⟨rfl, rfl, released, setTransport_keeps_map none (.inr (locateIn_reading u (by simp))), rfl, rfl⟩
  · rw [pointReached_travel ha hp, if_pos hv, enterApproach_eq hhead hp hq]
    refine ⟨fun hb => ?_, fun hb hl => ?_, fun hb hl => ?_⟩
    · rw [if_neg (by omega)]
      refine ⟨rfl, rfl, rfl, rfl, rfl, ?_, rfl, rfl⟩
      show ((locateTransport u.seq.transport.isChase .approach).outputs _).pinchDown = true
      cases u.seq.transport.isChase <;> rfl
    · obtain ⟨target, retries, -, error⟩ := recompute_keeps u { a with newest := none }
      obtain ⟨transport, active, failed, result⟩ := failLocate_spec (s := u.approaching q) .missed rfl
      rw [if_pos hb, approaching_missLocate_limit hq hl]
      refine ⟨by rw [transport, approaching_isChase], active, failed, ?_⟩
      rw [result, State.resultOf, approaching_headNow hhead hp, hq, target, retries, error]
    · rw [if_pos hb, approaching_missLocate_retry hhead hp hq hv hb hl]
      exact ⟨rfl, rfl, rfl, rfl⟩
  · rw [pointReached_travel ha hp, if_neg (by simp [hv])]
    obtain ⟨transport, active, located, done, result⟩ := completeLocate_spec ha hch hslot
    have head : u.headNow = h := by rw [State.headNow, hhead]; rfl
    refine ⟨transport, active, located, done, ?_⟩
    rw [result, State.resultOf, head]

end Sys2Proof.Machine

/-! # The transport states family

The invariant of the outputs, which every step keeps, first; then the refusals of motion requests, STOP, the leader sensor
and the stop line, the first phases of the motions, and the entry to STOPPED. -/

namespace Sys2Proof.Machine

/-! ## A start, from the hand-over on (R89) -/

/-- The state in which a motion is handed to its owner (R89): what the start ends and raises, the return entry of a locate,
and the new record. -/
def State.begun (how : StartKind) (h : Held) (s : State) : State :=
  let u := ((s.beginStart how).endLocate how.locateOutcome).pushReturn h.req
  u.setRecord { kind := h.req.kind, source := h.port.source, level := u.portLevel h.port }

theorem start_eq (how : StartKind) (h : Held) (s : State) :
    s.start how h = (((s.begun how h).handOver how h).noteStart h.req.kind).examineChase := rfl

section Begun

variable (s : State) (how : StartKind) (h : Held)

@[simp] theorem begun_geom : (s.begun how h).geom = s.geom := by simp [State.begun]
@[simp] theorem begun_speed : (s.begun how h).speed = s.speed := by simp [State.begun]
@[simp] theorem begun_seq : (s.begun how h).seq = s.seq := by simp [State.begun]
@[simp] theorem begun_map : (s.begun how h).map = s.map := by simp [State.begun]
@[simp] theorem begun_marks : (s.begun how h).marks = s.marks := by simp [State.begun]
@[simp] theorem begun_due : (s.begun how h).due = s.due := by simp [State.begun]
@[simp] theorem begun_prot : (s.begun how h).prot = s.prot := by simp [State.begun]

end Begun

/-! ## The outputs, the generator mode and the deceleration kind (R45, R51, R62, R94)

Every change of state writes all three together, so the invariant turns on the kind CAPSTAN alone: the two decelerations that
reels brake may not be entered while the capstan drives the tape. -/

/-- The decelerations that never are of kind CAPSTAN (R51, R62). -/
def Transport.reelBraked : Transport → Bool
  | .play .braking | .measuring .creepStop => true
  | _ => false

/-- A deceleration that may be of kind CAPSTAN is one of the three whose row of R62 names it. -/
theorem capstanKind_of_not_reelBraked {t : Transport} (hm : t.genMode = .deceleration) (h : t.reelBraked = false) :
    t ∈ [Transport.halting, .protectStop, .chase .releasing] := by
  cases t with
  | play p =>
    cases p with
    | braking => cases h
    | _ => exact absurd hm (by simp [Transport.genMode])
  | measuring p =>
    cases p with
    | creep => exact absurd hm (by simp [Transport.genMode])
    | creepStop => cases h
  | locate p => cases p <;> cases hm
  | chase p =>
    cases p with
    | releasing => simp
    | locating q => cases q <;> cases hm
    | _ => cases hm
  | halting => simp
  | protectStop => simp
  | _ => cases hm

/-- What a change to another state or phase writes into the mode and the kind (R45, R51). -/
theorem onChange_mode {old new : Transport} (v : Speed) (h : old ≠ new) :
    (v.onChange old new).mode = new.genMode
      ∧ (v.onChange old new).kind = if new.genMode = .deceleration then some v.fixKind else none := by
  rw [Speed.onChange, if_neg h]
  split_ifs <;> exact ⟨rfl, rfl⟩

section OutputsFollow

variable {s : State} (hs : OutputsFollow s)
include hs

/-- A change beside the sequencer's state and outputs and the generator's mode and kind. -/
theorem OutputsFollow.beside {t : State} (h : t.seq.transport = s.seq.transport ∧ t.seq.outputs = s.seq.outputs
    ∧ t.speed.mode = s.speed.mode ∧ t.speed.kind = s.speed.kind) : OutputsFollow t := by
  obtain ⟨transport, outputs, mode, kind⟩ := h
  unfold OutputsFollow
  rw [transport, outputs, mode, kind]
  exact hs

/-- The capstan drives the tape exactly in mode CAPSTAN and in a deceleration of that kind (R51). -/
theorem OutputsFollow.driven (hk : s.speed.fixKind = .capstan) :
    s.seq.transport.capstanActive s.speed.kind = true := by
  obtain ⟨-, mode, -, -⟩ := hs
  have active : s.speed.mode = .capstan ∨ (s.speed.mode = .deceleration ∧ s.speed.kind = some .capstan) →
      s.seq.transport.capstanActive s.speed.kind = true := by
    unfold Transport.capstanActive
    rw [← mode]
    rintro (h | ⟨h, k⟩) <;> rw [h]
    rw [k]
    rfl
  unfold Speed.fixKind at hk
  split at hk
  · cases hk
  · split at hk
    · exact active ‹_›
    · cases hk

/-- THE change of state keeps the rows, where reels brake only a tape that the capstan does not drive. -/
theorem OutputsFollow.change {new : Transport} (d : Option RestDest)
    (h : new.reelBraked = true → s.seq.transport.capstanActive s.speed.kind = false) :
    OutputsFollow (s.setTransport new d) := by
  by_cases hne : s.seq.transport = new
  · obtain ⟨-, mode, some_iff, capstan⟩ := hs
    refine ⟨rfl, ?_, ?_, ?_⟩ <;> simp only [setTransport_speed, setTransport_transport, Speed.onChange, if_pos hne]
    · rw [← hne]; exact mode
    · exact some_iff
    · rw [← hne]; exact capstan
  · obtain ⟨mode, kind⟩ := onChange_mode s.speed hne
    refine ⟨rfl, mode, ?_, fun hk => ?_⟩
    · rw [setTransport_speed, mode, kind]
      split <;> simp [*]
    · rw [setTransport_speed, kind] at hk
      split at hk
      · next hm =>
        have driven := hs.driven (Option.some.inj hk)
        refine capstanKind_of_not_reelBraked (t := new) hm ?_
        cases hb : new.reelBraked with
        | false => rfl
        | true => rw [h hb] at driven; cases driven
      · cases hk

/-- A change to a state or phase that is not braked by the reels alone. -/
theorem OutputsFollow.enter (new : Transport) (d : Option RestDest) (h : new.reelBraked = false) :
    OutputsFollow (s.setTransport new d) :=
  hs.change d (by rw [h]; nofun)

/-- CREEP_STOP is entered from THREADING and MEASURING, where the capstan never drives (R62). -/
theorem OutputsFollow.creepStop (d : Option RestDest)
    (h : s.seq.transport = .threading ∨ s.seq.transport.isMeasuring = true) :
    OutputsFollow (s.setTransport (.measuring .creepStop) d) := by
  obtain ⟨-, -, -, capstan⟩ := id hs
  refine hs.change d fun _ => ?_
  cases ht : s.seq.transport with
  | threading => rfl
  | measuring p =>
    cases p with
    | creep => rfl
    | creepStop =>
      have hk : s.speed.kind ≠ some .capstan := fun e => by simpa [ht] using capstan e
      simp [Transport.capstanActive, Transport.genMode, hk]
  | _ => simp [ht, Transport.isMeasuring] at h

/-! ### Sequencer and locate unit -/

theorem OutputsFollow.enterUnthreaded : OutputsFollow s.enterUnthreaded :=
  (hs.enter .unthreaded none rfl).beside (by simp [State.enterUnthreaded])

theorem OutputsFollow.enterUnthreading : OutputsFollow s.enterUnthreading :=
  (hs.enter .unthreading none rfl).beside (by simp [State.enterUnthreading])

theorem OutputsFollow.locateTransport (inChase : Bool) (p : LocatePhase) :
    OutputsFollow (s.setTransport (locateTransport inChase p) none) :=
  hs.enter _ none (by cases inChase <;> rfl)

theorem OutputsFollow.choosePhase (inChase : Bool) (back : LocatePhase) (r : LocateRecord) :
    OutputsFollow (s.choosePhase inChase back r) := by
  unfold State.choosePhase
  split
  · exact (hs.locateTransport inChase .approach).beside ⟨rfl, rfl, rfl, rfl⟩
  · exact (hs.locateTransport inChase back).beside ⟨rfl, rfl, rfl, rfl⟩

theorem OutputsFollow.startLocate (inChase : Bool) (target : LocateTarget) :
    OutputsFollow (s.startLocate inChase target) := hs.choosePhase ..

/-! ### The chase (R94 to R102) -/

theorem OutputsFollow.enterChase (p : ChasePhase) (level : Int) : OutputsFollow (s.enterChase p level) := by
  have recorded : OutputsFollow ((s.setRecord { kind := .chase, source := .chase, level := level }).setChase .granted) :=
    hs.beside (by simp)
  have entered := recorded.enter (.chase p) none rfl
  have rated := entered.beside (t := (State.setTransport _ _ _).setRatio 4096) ⟨rfl, rfl, rfl, rfl⟩
  exact rated.beside (t := State.noteStart .chase _) (by simp)

theorem OutputsFollow.grantChase : OutputsFollow s.grantChase := by
  have ended : OutputsFollow ((s.raiseIf s.otherSource .preempted).endLocate .preempted) := hs.beside (by simp)
  unfold State.grantChase
  dsimp only
  split
  · exact ended.enterChase ..
  · exact ended.enterChase ..
  · exact (ended.beside (t := (State.setRecord _ _).setChase .starting) (by simp)).enter .halting _ rfl

theorem OutputsFollow.examineChase : OutputsFollow s.examineChase := by
  unfold State.examineChase
  split
  · exact hs.grantChase
  · exact hs

/-! ### Starting a motion (R71, R80, R89) -/

theorem OutputsFollow.startUnthread : OutputsFollow s.startUnthread := by
  unfold State.startUnthread
  split
  case h_4 p ht => exact hs.creepStop _ (.inr (by rw [ht]; rfl))
  case h_5 =>
    split
    · exact hs.enterUnthreading
    · exact hs.enter .halting _ rfl
  case h_6 => exact hs.enter .halting _ rfl
  all_goals exact hs.enterUnthreading

/-- PLAY starts in BRAKING only where the capstan does not drive the tape (R71). -/
theorem OutputsFollow.startPlay (how : StartKind) : OutputsFollow (s.startPlay how) := by
  unfold State.startPlay
  split
  · exact hs
  · refine hs.change none fun h => ?_
    split at h
    · cases h
    · next hd => simpa using hd

theorem OutputsFollow.startThread (a b : Int) : OutputsFollow (s.startThread a b) :=
  (hs.beside (t := (s.setGeom (s.geom.thread a.toNat b.toNat)).setSpeed { s.speed with overspeed := ⟨0, 0⟩ })
    (by simp)).enter .threading none rfl

theorem OutputsFollow.startClearFault : OutputsFollow s.startClearFault := by
  have cleared : OutputsFollow s.clearQualification := hs.beside ⟨rfl, rfl, rfl, rfl⟩
  unfold State.startClearFault
  dsimp only
  split
  · exact cleared.enter .threading none rfl
  · exact cleared.enterUnthreaded

theorem OutputsFollow.handOver (how : StartKind) (h : Held) : OutputsFollow (s.handOver how h) := by
  unfold State.handOver
  split
  case h_1 => exact hs.enter .halting _ rfl
  case h_2 => exact hs.startPlay how
  case h_3 => exact (hs.enter .wind none rfl).beside (by simp)
  case h_4 => exact (hs.enter .shuttle none rfl).beside (by simp)
  case h_9 => exact hs.startThread ..
  case h_10 => exact hs.startUnthread
  case h_11 => exact hs.startClearFault
  case h_12 => exact hs
  all_goals exact hs.startLocate ..

theorem OutputsFollow.start (how : StartKind) (h : Held) : OutputsFollow (s.start how h) := by
  have handed := (hs.beside (t := s.begun how h) (by simp)).handOver how h
  rw [start_eq]
  exact (handed.beside (t := State.noteStart _ _) (by simp)).examineChase

theorem OutputsFollow.tryStart (how : StartKind) (h : Held) : OutputsFollow (s.tryStart how h).1 := by
  unfold State.tryStart
  split
  · exact hs
  · exact hs.start how h

/-! ### Judging (R85 to R92, R98, R100) -/

theorem OutputsFollow.hold (h : Held) : OutputsFollow (s.hold h).1 :=
  hs.beside (by simp [State.hold])

theorem OutputsFollow.judgeActive (h : Held) : OutputsFollow (s.judgeActive h).1 := by
  unfold State.judgeActive
  split
  · exact hs.tryStart _ h
  · split_ifs
    · exact hs.tryStart _ h
    · exact hs.tryStart _ h
    · exact hs

theorem OutputsFollow.judgeStarting (h : Held) : OutputsFollow (s.judgeStarting h).1 := by
  unfold State.judgeStarting
  split
  · exact hs.tryStart _ h
  · exact hs

theorem OutputsFollow.panelInChase (h : Held) : OutputsFollow (s.panelInChase h).1 := by
  unfold State.panelInChase
  split
  · exact hs.tryStart _ h
  · exact hs.hold h

theorem OutputsFollow.chasePhase (p : ChasePhase) : OutputsFollow (s.chasePhase p) :=
  (hs.beside (t := s.endLocate .replaced) (by simp)).enter (.chase p) none rfl

theorem OutputsFollow.chaseLocate (h : Held) : OutputsFollow (s.chaseLocate h).1 := by
  unfold State.chaseLocate
  split
  · exact hs
  · exact (hs.beside (t := (s.endLocate .replaced).pushReturn h.req) (by simp)).startLocate ..

theorem OutputsFollow.chasePlay (p : ChasePhase) : OutputsFollow (s.chasePlay p).1 := by
  have rolling := hs.chasePhase .rolling
  unfold State.chasePlay
  split
  · split <;> assumption
  all_goals assumption

theorem OutputsFollow.chaseStop (p : ChasePhase) : OutputsFollow (s.chaseStop p).1 := by
  have parked := hs.chasePhase .parked
  unfold State.chaseStop
  split <;> assumption

theorem OutputsFollow.studioInChase (p : ChasePhase) (h : Held) : OutputsFollow (s.studioInChase p h).1 := by
  unfold State.studioInChase
  split
  case h_1 => exact hs.beside ⟨by simp, by simp, by simp [State.chaseSpeed], by simp [State.chaseSpeed]⟩
  case h_2 => exact hs.chasePlay p
  case h_3 => exact hs.chaseStop p
  case h_4 | h_5 | h_6 | h_7 =>
    split
    · exact hs
    · exact hs.chaseLocate h
  all_goals exact hs

theorem OutputsFollow.stopThreading : OutputsFollow s.stopThreading := by
  unfold State.stopThreading
  split
  · exact hs
  · exact hs.beside ⟨rfl, rfl, rfl, rfl⟩

theorem OutputsFollow.stopMeasuring {p : MeasurePhase} (ht : s.seq.transport = .measuring p) :
    OutputsFollow (s.stopMeasuring p) := by
  unfold State.stopMeasuring
  split
  · exact hs.creepStop _ (.inr (by rw [ht]; rfl))
  · exact hs

theorem OutputsFollow.judge (h : Held) : OutputsFollow (s.judge h).1 := by
  have started := hs.tryStart .fresh h
  unfold State.judge
  split
  case h_3 => split; exacts [hs.stopThreading, started]
  case h_4 p ht => split; exacts [hs.stopMeasuring ht, started]
  case h_5 =>
    split_ifs
    · exact hs.beside (by simp)
    · exact started
    · exact hs.hold h
  case h_6 => split <;> assumption
  case h_11 =>
    split_ifs
    · exact hs
    · exact hs.judgeStarting h
    · exact hs.judgeActive h
  case h_12 p _ =>
    split
    · exact hs.studioInChase p h
    · exact hs.panelInChase h
  case h_1 | h_2 => exact started
  case h_13 | h_14 => exact hs
  all_goals exact hs.judgeActive h

theorem OutputsFollow.motion (p : Port) (req : MotionReq) : OutputsFollow (s.motion p req).1 := by
  unfold State.motion
  split
  · exact hs
  · unfold State.motionFromStateTest
    split
    · exact hs
    · split
      · exact hs
      · next h u popped =>
        refine OutputsFollow.judge ?_ h
        unfold State.popReturn at popped
        split at popped
        · split at popped
          · cases popped
          · cases popped; exact hs.beside (by simp)
        · cases popped; exact hs

theorem OutputsFollow.judgeHeld (h : Held) : OutputsFollow (s.judgeHeld h).1 := by
  unfold State.judgeHeld
  split
  · exact hs
  · exact hs.judge h

theorem OutputsFollow.judgeSlot : OutputsFollow s.judgeSlot := by
  unfold State.judgeSlot
  split
  · exact hs
  · next h _ =>
    have judged := (hs.beside (t := s.setSlot none) (by simp)).judgeHeld h
    dsimp only
    split
    · exact judged
    · exact judged.beside (by simp)

theorem OutputsFollow.enterStopped : OutputsFollow s.enterStopped :=
  ((hs.enter .stopped none rfl).beside (t := ((s.setTransport .stopped none).setActive none).setChase _)
    (by simp)).examineChase.judgeSlot

/-! ### Protection (R77 to R81, R180, R181) -/

theorem OutputsFollow.endByProtection : OutputsFollow s.endByProtection := by
  have ended := endByProtection_spec s
  exact hs.beside ⟨by rw [ended.seq], by rw [ended.seq], by rw [ended.speed], by rw [ended.speed]⟩

theorem OutputsFollow.stopDemand : OutputsFollow s.stopDemand := by
  have stop : OutputsFollow s.enterProtectStop := hs.endByProtection.enter .protectStop none rfl
  unfold State.stopDemand
  split
  case h_1 => exact hs.enterUnthreading.beside (by simp)
  all_goals assumption

theorem OutputsFollow.faultDemand : OutputsFollow s.faultDemand := by
  unfold State.faultDemand
  split
  · exact hs
  · exact (hs.endByProtection.enter .faulted none rfl).beside ⟨rfl, rfl, rfl, rfl⟩

theorem OutputsFollow.takeCause (c : Cause) (a : CauseAxis) : OutputsFollow (s.takeCause c a) := by
  have captured : OutputsFollow (s.capture c a) := hs.beside (by simp)
  unfold State.takeCause
  split
  · exact hs
  · dsimp only
    split
    · exact captured.faultDemand
    · exact captured.stopDemand

theorem OutputsFollow.takeCauseIf (b : Bool) (c : Cause) (a : CauseAxis) : OutputsFollow (s.takeCauseIf b c a) := by
  unfold State.takeCauseIf
  split
  · exact hs.takeCause c a
  · exact hs

theorem OutputsFollow.takeDue (d : Due) : OutputsFollow (s.takeDue d) := by
  unfold State.takeDue
  split
  · exact (hs.beside (t := s.setDue _) (by simp)).takeCause ..
  · exact hs

/-! ### The run of a locate (R161 to R170) -/

theorem OutputsFollow.completeLocate (verified : Bool) : OutputsFollow (s.completeLocate verified) := by
  have completed : ∀ o, OutputsFollow (((s.endLocate o).pulseLocated verified).raise .locateDone) :=
    fun o => hs.beside (by simp)
  unfold State.completeLocate
  dsimp only
  split
  · exact (completed _).enter (.chase .parked) none rfl
  · exact (completed _).enterStopped

theorem OutputsFollow.failLocate (o : LocateOutcome) : OutputsFollow (s.failLocate o) := by
  have failed : OutputsFollow ((s.endLocate o).raise .locateFailed) := hs.beside (by simp)
  unfold State.failLocate
  dsimp only
  split
  · exact failed.enter (.chase .parked) none rfl
  · exact (failed.enter .halting (some .stopped) rfl).beside (by simp)

theorem OutputsFollow.missLocate (r : LocateRecord) : OutputsFollow (s.missLocate r) := by
  unfold State.missLocate
  split
  · exact hs.failLocate _
  · exact hs.choosePhase ..

theorem OutputsFollow.headFor (first : Bool) (r : LocateRecord) : OutputsFollow (s.headFor first r) := by
  have recorded : OutputsFollow (s.setLocate r) := hs.beside (by simp)
  unfold State.headFor
  dsimp only
  split
  · exact recorded.missLocate r
  · exact recorded.beside ⟨rfl, rfl, rfl, rfl⟩

theorem OutputsFollow.pointReached : OutputsFollow s.pointReached := by
  have approach : ∀ r, OutputsFollow (s.enterApproach r) := fun r => (hs.locateTransport _ .approach).headFor ..
  have verify : ∀ r, OutputsFollow (s.enterVerify r) := fun r =>
    (hs.locateTransport _ .verify).beside ⟨rfl, rfl, rfl, rfl⟩
  unfold State.pointReached
  split
  case h_3 => exact verify _
  case h_4 => exact hs
  all_goals
    split
    · exact approach _
    · exact hs.completeLocate _

theorem OutputsFollow.handReport (p : Stamp) : OutputsFollow (s.handReport p) := by
  unfold State.handReport
  dsimp only
  split
  · exact hs.headFor ..
  · exact hs.beside (by simp)
  · exact hs

theorem OutputsFollow.verifyExpiry : OutputsFollow s.verifyExpiry := by
  have pass : ∀ r, OutputsFollow (s.passWithoutReports r) := by
    intro r
    unfold State.passWithoutReports
    split
    · exact hs.failLocate _
    · exact hs.completeLocate _
  have evaluated : ∀ r, OutputsFollow (s.evaluateVerify r) := by
    intro r
    unfold State.evaluateVerify
    split
    · exact pass r
    · dsimp only
      split
      · exact (hs.beside (t := s.setLocate _) (by simp)).completeLocate _
      · exact (hs.beside (t := s.setLocate _) (by simp)).missLocate _
  unfold State.verifyExpiry
  split
  · exact hs
  · split
    · exact evaluated _
    · exact hs

theorem OutputsFollow.retire (taken : Mark → Bool) : OutputsFollow (s.retire taken) := by
  have gone : ∀ ms, OutputsFollow (s.setMarks ms) := fun ms => hs.beside (by simp)
  unfold State.retire State.retireTarget
  dsimp only
  split
  · exact (gone _).failLocate _
  · exact gone _

/-! ### Requests (R192 to R202) -/

theorem OutputsFollow.underTests (tests : List (Bool × Status)) {act : State → Carried}
    (h : OutputsFollow (act s).state) : OutputsFollow (underTests tests act s).state := by
  unfold Machine.underTests
  split
  · exact hs
  · exact h

theorem OutputsFollow.storeParam (n : Nat) (v : Int) : OutputsFollow (s.storeParam n v) := by
  obtain ⟨-, seq, -, -, -, -, -, -, speed⟩ := writeParam_frame s n v
  have written : OutputsFollow (s.writeParam n v) :=
    hs.beside ⟨by rw [seq], by rw [seq], by rw [speed], by rw [speed]⟩
  unfold State.storeParam
  dsimp only
  split
  · exact written.examineChase
  · exact written

/-- A request carried out: only the motion requests, the retirements and SET_PARAMETER can move the transport. -/
theorem OutputsFollow.perform (port : Port) (req : Request) : OutputsFollow (s.perform port req).state := by
  cases req with
  | motion m => exact hs.motion port m
  | placeMark n a t => exact hs.underTests _ (hs.beside ⟨rfl, rfl, rfl, rfl⟩)
  | captureMark n =>
    refine hs.underTests _ ?_
    split
    · exact hs
    · exact hs.beside ⟨rfl, rfl, rfl, rfl⟩
  | moveMark n a => exact hs.underTests _ (hs.beside ⟨rfl, rfl, rfl, rfl⟩)
  | trimMark n t => exact hs.underTests _ (hs.beside ⟨rfl, rfl, rfl, rfl⟩)
  | lockMark n => exact hs.underTests _ (hs.beside ⟨rfl, rfl, rfl, rfl⟩)
  | unlockMark n => exact hs.underTests _ (hs.beside ⟨rfl, rfl, rfl, rfl⟩)
  | retireMark n => exact hs.underTests _ (hs.retire _)
  | retireMarks scope => exact hs.underTests _ (hs.retire _)
  | forgetMap => exact hs.underTests _ (hs.beside (t := s.mapEvent s.map.flush) (by simp))
  | setProfile n ch cf nmax js => exact hs.underTests _ (hs.beside ⟨rfl, rfl, rfl, rfl⟩)
  | setParameter n v =>
    show OutputsFollow (s.setParameter n v).state
    unfold State.setParameter
    split
    · exact hs
    · exact hs.storeParam n _
  | readParameter n =>
    show OutputsFollow (s.readParameter n).state
    unfold State.readParameter
    split <;> exact hs
  | readStopReport =>
    show OutputsFollow s.readStopReport.state
    unfold State.readStopReport
    split
    · exact hs
    · exact hs.beside ⟨rfl, rfl, rfl, rfl⟩
  | clearFlags c a m => exact hs.underTests _ (hs.beside ⟨rfl, rfl, rfl, rfl⟩)
  | readStatus => exact hs
  | readGeometry => exact hs
  | _ => exact hs.underTests _ hs

theorem OutputsFollow.runSlots (port : Port) (slots : List Slot) :
    ∀ prev, OutputsFollow (runSlots port prev slots s).1 := by
  induction slots generalizing s with
  | nil => exact fun _ => hs
  | cons x rest ih =>
    intro prev
    unfold Machine.runSlots
    split
    · exact ih hs false
    · refine ih ?_ _
      unfold State.carryOut
      split
      · exact hs
      · exact hs.perform ..

theorem OutputsFollow.arrive (p : Port) (a : Arrival) : OutputsFollow (s.arrive p a) := by
  have lost : OutputsFollow (s.loseHeld p) := by
    rw [loseHeld_eq]
    exact hs.beside (by simp)
  unfold State.arrive
  cases a with
  | refused st tag => exact lost.beside ⟨rfl, rfl, rfl, rfl⟩
  | taken tag slots => exact (lost.runSlots p slots true).beside ⟨rfl, rfl, rfl, rfl⟩

/-! ### The other events -/

theorem OutputsFollow.deassert (mosi : List Byte) : OutputsFollow (s.deassert mosi) := by
  have judged : OutputsFollow ((s.setAsserted false).onPort .panel (PortState.judgeRead mosi.length)) :=
      hs.beside (by simp)
  unfold State.deassert
  dsimp only
  split
  · exact judged
  · exact judged.arrive ..

theorem OutputsFollow.addressReport (a : Int) : OutputsFollow (s.addressReport a) := by
  have taken : ∀ r, OutputsFollow (s.takeReport r) := fun r => by
    unfold State.takeReport
    exact (hs.beside (t := State.setMarks _ (s.mapEvent _)) (by simp)).handReport r
  unfold State.addressReport
  split
  · exact hs
  · split
    · exact taken _
    · exact hs

theorem OutputsFollow.rollerCount (d : Sense) : OutputsFollow (s.rollerCount d) :=
  (hs.beside (t := (s.countRoller d).setGeom _) ⟨rfl, rfl, rfl, rfl⟩).takeCauseIf ..

theorem OutputsFollow.reelCount (r : Reel) (u : Turn) : OutputsFollow (s.reelCount r u) := by
  have measured : ∀ {t : State}, OutputsFollow t → OutputsFollow t.geometryMeasured := fun {t} ht => by
    have stopped : OutputsFollow t.stopMeasuringTimer := ht.beside ⟨rfl, rfl, rfl, rfl⟩
    unfold State.geometryMeasured
    dsimp only
    split
    · next hc => exact stopped.creepStop _ (.inr (by rw [hc]; rfl))
    · exact stopped
  have noted : OutputsFollow (s.noteReel r u) := hs.beside ⟨rfl, rfl, rfl, rfl⟩
  cases he : s.seq.transport.estimating with
  | false => rw [reelCount_idle r u he]; exact noted
  | true =>
    rw [reelCount_active r u he]
    have estimated : ∀ g b, OutputsFollow (((s.noteReel r u).setGeom g).raiseDue b (.reject r)) := fun g b =>
      noted.beside (by simp)
    unfold State.estimateReel
    dsimp only
    split
    · exact measured (estimated _ _)
    · exact estimated _ _

theorem OutputsFollow.tensionEstablished (ht : s.seq.transport = .threading) : OutputsFollow s.tensionEstablished := by
  unfold State.tensionEstablished
  split_ifs
  · exact hs.enter .settling none rfl
  · exact hs.creepStop _ (.inl ht)
  · exact hs.enter (.measuring .creep) none rfl

theorem OutputsFollow.axisServoPeriod (r : Reel) (arm : Int) : OutputsFollow (s.axisServoPeriod r arm) := by
  have period : OutputsFollow (s.axisPeriod r arm).1 := hs.beside (by simp)
  unfold State.axisServoPeriod
  dsimp only
  split
  · exact period.enterUnthreaded
  · unfold State.threadingTest
    split
    · next ht =>
      split
      · exact period.tensionEstablished ht
      · exact period.beside ⟨rfl, rfl, rfl, rfl⟩
    · exact period

theorem OutputsFollow.capstanPeriod : OutputsFollow s.capstanPeriod := by
  unfold State.capstanPeriod
  dsimp only
  split
  · exact hs.beside (by simp)
  · exact hs

theorem OutputsFollow.restReached : OutputsFollow s.restReached := by
  unfold State.restReached
  split
  · split
    · exact hs.enter .settling none rfl
    · exact hs.enterUnthreading
    · exact hs
  · exact hs.enter (.play .engage) none rfl
  · split
    · exact hs.enterStopped
    · exact hs.enterUnthreading
    · exact hs.enterChase ..
    · exact hs
  · exact (hs.beside (t := s.raise .protectedStop) (by simp)).enterStopped
  · exact hs.enterStopped
  · exact hs

theorem OutputsFollow.generatorTests : OutputsFollow s.generatorTests := by
  unfold State.generatorTests
  split
  · exact (hs.beside (t := s.setSpeed { s.speed with pointReported := true }) (by simp)).pointReached
  · split
    · exact (hs.beside (t := s.setSpeed { s.speed with restReported := true }) (by simp)).restReached
    · exact hs

theorem OutputsFollow.generatorPeriod (w : Switch) : OutputsFollow (s.generatorPeriod w) := by
  have stepped : OutputsFollow (s.stepped w) :=
    hs.beside ⟨by simp, by simp, by rw [stepped_speed]; rfl, by rw [stepped_speed]; rfl⟩
  exact stepped.generatorTests

theorem OutputsFollow.endOfTapeHalt : OutputsFollow s.endOfTapeHalt := by
  unfold State.endOfTapeHalt
  split
  · exact (hs.enter .halting (some .stopped) rfl).beside (by simp)
  · exact hs

theorem OutputsFollow.leaderChange (l : Leader) (haltFirst : Bool) : OutputsFollow (s.leaderChange l haltFirst) := by
  have seen : OutputsFollow (s.seeLeader l) := hs.beside ⟨rfl, rfl, rfl, rfl⟩
  unfold State.leaderChange
  dsimp only
  split
  · unfold State.leaderAppears
    split
    · exact seen.endOfTapeHalt.takeCauseIf ..
    · exact OutputsFollow.endOfTapeHalt (seen.takeCauseIf ..)
  · exact seen

theorem OutputsFollow.chaseRise : OutputsFollow s.chaseRise := by
  have raised : OutputsFollow (s.setChaseLine true) := hs.beside (by simp)
  unfold State.chaseRise
  dsimp only
  split
  · exact (raised.beside (t := State.setChase _ _) (by simp)).examineChase
  · exact raised.beside (by simp)
  all_goals exact raised

theorem OutputsFollow.chaseFall : OutputsFollow s.chaseFall := by
  have fallen : OutputsFollow (s.setChaseLine false) := hs.beside (by simp)
  have released : OutputsFollow (s.setChaseLine false).startRelease :=
    ((fallen.beside (t := State.endLocate .released _) (by simp)).enter (.chase .releasing) none rfl).beside
      ⟨rfl, rfl, rfl, rfl⟩
  unfold State.chaseFall
  dsimp only
  split
  · exact fallen.beside (by simp)
  · exact fallen.beside (by simp)
  · exact (fallen.enter .halting (some .stopped) rfl).beside (by simp)
  · exact released
  all_goals exact fallen

theorem OutputsFollow.takeCatches : OutputsFollow s.takeCatches := by
  unfold State.takeCatches
  generalize s.due.filter _ = ds
  induction ds generalizing s with
  | nil => exact hs
  | cons d ds ih => exact ih (hs.takeDue d)

/-- A guarded effect keeps the rows when the effect does. -/
theorem OutputsFollow.guarded {t : State} (p : Prop) [Decidable p] (h : OutputsFollow t) :
    OutputsFollow (if p then t else s) := by
  split
  · exact h
  · exact hs

theorem OutputsFollow.linkError : OutputsFollow s.linkError := hs.beside ⟨rfl, rfl, rfl, rfl⟩

end OutputsFollow

/-- Every command keeps the rows of the state. -/
theorem OutputsFollow.exec {s t : State} {c : Instr} (hs : OutputsFollow s) (h : exec c s = .next t) :
    OutputsFollow t := by
  have caught := hs.takeCatches
  cases c <;> cases h
  case deviceReset l => exact ⟨rfl, rfl, by simp [State.resetWith, Speed.reset], nofun⟩
  case extStopLevelCatch => exact hs.takeDue _
  case panelDeassertion mosi w => exact (caught.beside (t := State.readSwitch w _) (by simp)).deassert mosi
  case studioFrameArrival frame w =>
    have framed : OutputsFollow (State.setStudioRx .hunt (State.readSwitch w s.takeCatches)) := caught.beside (by simp)
    exact framed.arrive ..
  case addressLinkFrame high mid low check =>
    have heard : OutputsFollow (s.takeCatches.setLinkRx (.hunt false)) := caught.beside (by simp)
    split
    · exact heard.addressReport _
    · exact heard.linkError
  case lostSync => exact caught.guarded _ (caught.beside (t := State.setLinkRx _ _) (by simp)).linkError
  case linkGapTimeout => exact caught.guarded _ (caught.beside (t := State.setLinkRx _ _) (by simp)).linkError
  case linkFramingError => exact caught.guarded _ (caught.beside (t := State.setLinkRx _ _) (by simp)).linkError
  case rollerCount d => exact caught.rollerCount d
  case gapCountLimit => exact caught.guarded _ (caught.beside (t := State.setMap _ _) (by simp))
  case reelCount r u => exact caught.reelCount r u
  case axisServoPeriod r arm => exact caught.axisServoPeriod r _
  case capstanServoPeriod => exact caught.capstanPeriod
  case profileGeneratorPeriod w => exact caught.generatorPeriod w
  case threadingTimerExpiry =>
    have stopped : OutputsFollow s.takeCatches.stopThreadingTimer := caught.beside ⟨rfl, rfl, rfl, rfl⟩
    refine caught.guarded _ ?_
    unfold State.threadingLoss
    split
    · exact stopped.takeCause ..
    · exact (stopped.beside (t := (State.stopThreadingTimer _).drawFree) ⟨rfl, rfl, rfl, rfl⟩).takeCause ..
  case measuringTimerExpiry =>
    have stopped : OutputsFollow s.takeCatches.stopMeasuringTimer := caught.beside ⟨rfl, rfl, rfl, rfl⟩
    refine caught.guarded _ ?_
    unfold State.measuringLoss
    split
    · exact stopped.takeCause ..
    · exact stopped
  case settleTimerExpiry => exact caught.guarded _ caught.enterStopped
  case engageTimerExpiry => exact caught.guarded _ (caught.enter (.play .running) none rfl)
  case verifyTimerExpiry => exact caught.guarded _ caught.verifyExpiry
  case leaderSensorChange l haltFirst => exact caught.leaderChange l haltFirst
  case externalStopLineChange b =>
    exact (caught.beside (t := State.setExtStop b _) ⟨rfl, rfl, rfl, rfl⟩).takeCauseIf ..
  case chaseRequestRise =>
    split
    · exact caught
    · exact caught.chaseRise
  case chaseRequestFall => exact caught.guarded _ caught.chaseFall
  case rejectCountLimit r => exact caught.takeDue _
  case saturationCountLimit r => exact caught.takeDue _
  case lowCountLimit r => exact caught.takeDue _
  case highCountLimit r => exact caught.takeDue _
  case capstanSaturationLimit => exact caught.takeDue _
  case overspeedCountLimit r => exact caught.takeDue _
  case tapeOutCountLimit => exact caught.takeDue _
  all_goals exact caught.beside ⟨rfl, rfl, rfl, rfl⟩

theorem OutputsFollow.step {s t : State} (hs : OutputsFollow s) (h : step s = .next t) : OutputsFollow t := by
  unfold Machine.step at h
  split at h
  · next rest _ => exact (hs.beside (t := { s with pending := rest }) ⟨rfl, rfl, rfl, rfl⟩).exec h
  · split at h
    · exact hs.exec h
    · cases h
      exact hs

/-- The rows of R45, mode by mode. -/
theorem genMode_rows (t : Transport) :
    (t.genMode = .forced ↔ t ∈ [Transport.unthreaded, .faulted])
    ∧ (t.genMode = .still ↔ t ∈ [Transport.threading, .settling, .stopped, .unthreading, .chase .parked])
    ∧ (t.genMode = .reel ↔
      t ∈ [Transport.measuring .creep, .wind, .shuttle, .locate .travel, .locate .reposition,
        .chase (.locating .travel), .chase (.locating .reposition)])
    ∧ (t.genMode = .capstan ↔
      t ∈ [Transport.play .engage, .play .running, .chase .rolling, .locate .approach, .locate .verify,
        .chase (.locating .approach), .chase (.locating .verify)])
    ∧ (t.genMode = .deceleration ↔
      t ∈ [Transport.play .braking, .measuring .creepStop, .halting, .protectStop, .chase .releasing]) := by
  rcases t with _ | _ | (_ | _) | _ | _ | (_ | _ | _) | _ | _ | (_ | _ | _ | _) | (_ | _ | (_ | _ | _ | _) | _) | _ | _
    | _ | _ <;> decide

/-- The pinch roller's rows of R62, where the kind CAPSTAN stands in its three states alone. -/
theorem capstanActive_iff {t : Transport} {kind : Option DecelKind}
    (hk : kind = some .capstan → t ∈ [Transport.halting, .protectStop, .chase .releasing]) :
    t.capstanActive kind = true ↔
      t ∈ [Transport.play .engage, .play .running, .locate .approach, .locate .verify, .chase .rolling,
          .chase (.locating .approach), .chase (.locating .verify)]
        ∨ (t ∈ [Transport.halting, .protectStop, .chase .releasing] ∧ kind = some .capstan) := by
  obtain ⟨-, -, -, capstan, deceleration⟩ := genMode_rows t
  have driven : t.capstanActive kind = true
      ↔ t.genMode = .capstan ∨ (t.genMode = .deceleration ∧ kind = some .capstan) := by
    unfold Transport.capstanActive
    split <;> simp_all
  rw [driven, capstan, deceleration]
  refine or_congr (List.Perm.mem_iff (by decide)) ⟨fun h => ⟨hk h.2, h.2⟩, fun h => ⟨?_, h.2⟩⟩
  exact List.mem_cons_of_mem _ (List.mem_cons_of_mem _ h.1)

/-- Settles O45: every command keeps the rows, and the rows of R62 and R45 are those spelt. -/
theorem outputsFollowTransport : Obligations.OutputsFollowTransport := by
  intro s t h hs
  have ht := hs.step h
  refine ⟨ht, ?_⟩
  obtain ⟨outputs, mode, -, capstan⟩ := ht
  have down := capstanActive_iff capstan
  have forced : t.seq.transport.isForced = true ↔ t.seq.transport ∈ [Transport.unthreaded, .faulted] := by
    simpa using isForced_iff t.seq.transport
  rw [outputs, mode]
  refine ⟨?_, ?_, down, ?_, ?_, genMode_rows t.seq.transport⟩
  · rw [← forced]; simp [Transport.outputs]
  · rw [← forced]; simp [Transport.outputs]
  · simp [Transport.outputs]
  · cases t.seq.transport <;> simp [Transport.outputs, Transport.isChase]

/-! ## Motion requests refused (R64, R83, R85) -/

/-- No operand test answers an accepted status (R5, R155). -/
theorem operandTest_refuses {s : State} {req : MotionReq} {st : Status} (h : s.operandTest req = some st) :
    st.accepted = false := by
  cases req with
  | thread a b =>
    simp only [State.operandTest, State.threadTest] at h
    split_ifs at h <;> cases h <;> rfl
  | locateMark n =>
    simp only [State.operandTest] at h
    split_ifs at h <;> cases h <;> rfl
  | locateAddress a =>
    simp only [State.operandTest] at h
    split_ifs at h
    cases h
    rfl
  | locateLength l =>
    simp only [State.operandTest] at h
    split_ifs at h
    cases h
    rfl
  | _ => cases h

/-- A request of a kind that R64 does not name for the state is refused after its operand test (R85). -/
theorem motion_badState {s : State} {port : Port} {req : MotionReq} (ho : s.operandTest req = none)
    (hv : req.validIn s.seq.transport = false) : s.motion port req = (s, .badState) := by
  simp [State.motion, ho, State.motionFromStateTest, State.admission, hv]

/-- A request valid outside CHASE is refused below the lockout level, STOP and UNTHREAD from the panel aside (R83). -/
theorem motion_lockedOut {s : State} {port : Port} {req : MotionReq} (ho : s.operandTest req = none)
    (hv : req.validIn s.seq.transport = true) (hc : s.seq.transport.isChase = false)
    (hl : s.portLevel port < paramOf s.ports.params Param.lockoutLevel)
    (he : ¬(port = .panel ∧ (req = .stop ∨ req = .unthread))) : s.motion port req = (s, .lockedOut) := by
  have meant : (freshHeld port req).chaseRefuses s.seq.transport = false := by
    unfold Held.chaseRefuses
    split <;> simp_all [Transport.isChase]
  have locked : s.lockedOut (freshHeld port req) = true := by
    simpa [State.lockedOut, freshHeld, State.param, hl, imp_iff_not_or] using he
  simp only [freshHeld] at meant locked
  simp [State.motion, ho, State.motionFromStateTest, State.admission, hv, meant, locked]

/-- No motion request is valid in PROTECT_STOP and UNTHREADING, and in FAULTED CLEAR_FAULT alone (R64). -/
theorem validIn_at_rest {req : MotionReq} {t : Transport}
    (h : t = .protectStop ∨ t = .unthreading ∨ (t = .faulted ∧ req ≠ .clearFault)) : req.validIn t = false := by
  rcases h with rfl | rfl | ⟨rfl, hr⟩
  · cases req <;> rfl
  · cases req <;> rfl
  · cases req <;> first | rfl | exact absurd rfl hr

/-- The states in which STOP and UNTHREAD are not valid (R64). -/
theorem validIn_stop {t : Transport} (h : t ∈ [Transport.unthreaded, .protectStop, .faulted, .unthreading]) :
    MotionReq.validIn .stop t = false := by
  simp only [List.mem_cons, List.not_mem_nil, or_false] at h
  rcases h with rfl | rfl | rfl | rfl <;> rfl

/-- The states in which the driving motions are not valid (R64). -/
theorem validIn_play {t : Transport} (h : t ∈ [Transport.unthreaded, .threading, .protectStop, .faulted, .unthreading]
    ∨ t.isMeasuring = true) : MotionReq.validIn .play t = false := by
  rcases h with h | h
  · simp only [List.mem_cons, List.not_mem_nil, or_false] at h
    rcases h with rfl | rfl | rfl | rfl | rfl <;> rfl
  · cases t with
    | measuring p => rfl
    | _ => cases h

/-- Settles O54: the state test comes before the lockout test, and both before any effect. -/
theorem motionRefusedOutsideItsStates : Obligations.MotionRefusedOutsideItsStates := by
  refine fun port req s => ⟨fun h => ?_, fun ho h => motion_badState ho ?_,
    fun ho hv hc hl he => motion_lockedOut ho hv hc hl he⟩
  · cases ho : s.operandTest req with
    | none => rw [motion_badState ho (validIn_at_rest h)]; exact ⟨rfl, rfl⟩
    | some st =>
      rw [State.motion, ho]
      exact ⟨rfl, operandTest_refuses ho⟩
  · cases req with
    | thread a b => exact beq_eq_false_iff_ne.mpr h
    | clearFault => exact beq_eq_false_iff_ne.mpr h
    | chaseSpeed ratio => exact h
    | stop => exact validIn_stop h
    | unthread => exact validIn_stop h
    | _ => exact validIn_play h

/-! ## STOP (R64, R75, R84, R87) -/

/-- Settles O58: in STOPPED and HALTING a STOP judges to no effect, elsewhere its start is the halt alone. -/
theorem stopHaltsAMovingTransport : Obligations.StopHaltsAMovingTransport := by
  refine fun port s hl => ⟨fun h => ?_, fun m hw hm hsrc hch => ?_⟩
  · have admitted : s.admission (freshHeld port .stop) = none :=
      admission_passes (by rcases h with h | h <;> rw [h] <;> rfl) (by rcases h with h | h <;> rw [h] <;> rfl) hl
    rw [motion_eq_judge rfl admitted (by simp)]
    rcases h with h | h <;> simp [State.judge, h, freshHeld]
  · obtain ⟨chase, measuring, forced, halting, moving⟩ := watchesLeader_cases hw
    have admitted : s.admission (freshHeld port .stop) = none :=
      admission_passes (by rcases moving with ⟨p, h⟩ | h | h <;> rw [h] <;> rfl) chase hl
    have judged : s.judge (freshHeld port .stop) = s.tryStart .replace (freshHeld port .stop) := by
      rcases moving with ⟨p, h⟩ | h | h <;> simp [State.judge, h, State.judgeActive, hm, hsrc, freshHeld]
    have started : s.tryStart .replace (freshHeld port .stop)
        = ((s.recorded .replace (freshHeld port .stop)).setTransport .halting (some .stopped), .ok) := by
      rw [tryStart_of_check rfl, start_eq_handOver rfl rfl, examineChase_of_not_waiting]
      · rfl
      · show (s.recorded .replace (freshHeld port .stop)).arb.chase ≠ _
        rw [recorded_arb]
        exact hch
    have kind := setTransport_kind (s := s.recorded .replace (freshHeld port .stop)) (some .stopped)
      (by rw [recorded_seq]; exact halting) rfl
    rw [recorded_speed] at kind
    refine ⟨_, s.speed.fixKind, by rw [motion_eq_judge rfl admitted (by simp), judged, started], rfl, rfl, rfl, kind,
      ?_, ?_, recorded_arb s .replace (freshHeld port .stop), recorded_ports s .replace (freshHeld port .stop), ?_,
      recorded_marks s .replace (freshHeld port .stop), recorded_due s .replace (freshHeld port .stop)⟩
    · rw [setTransport_vRef _ rfl, recorded_speed]
    · rw [setTransport_speed] at kind
      rw [setTransport_outputs, kind]
      cases s.speed.fixKind <;> rfl
    · rw [setTransport_head _ (by rw [recorded_seq]; exact measuring) (by simp), recorded_geom]

/-! ## The leader sensor and the external stop line (R63, R74, R77, R177, R178) -/

/-- Taking a cause leaves the leader reading and the level of the stop line (R63, R178). -/
theorem takeCause_lines (s : State) (c : Cause) (a : CauseAxis) :
    (s.takeCause c a).seq.leaderSeen = s.seq.leaderSeen ∧ (s.takeCause c a).prot.extStop = s.prot.extStop := by
  have captured : (s.capture c a).seq.leaderSeen = s.seq.leaderSeen ∧ (s.capture c a).prot.extStop = s.prot.extStop := by
    obtain ⟨q, hq, -, -⟩ := capture_spec s c a
    rw [hq]
    exact ⟨rfl, rfl⟩
  have ended (u : State) : u.endByProtection.seq.leaderSeen = u.seq.leaderSeen
      ∧ u.endByProtection.prot.extStop = u.prot.extStop := by
    rw [(endByProtection_spec u).seq, (endByProtection_spec u).prot]
    exact ⟨rfl, rfl⟩
  have stop (u : State) : u.stopDemand.seq.leaderSeen = u.seq.leaderSeen
      ∧ u.stopDemand.prot.extStop = u.prot.extStop := by
    unfold State.stopDemand
    split
    case h_1 => exact ⟨by simp [State.enterUnthreading], by simp [State.enterUnthreading]; rfl⟩
    all_goals first | exact ended u | exact ⟨rfl, rfl⟩
  have fault (u : State) : u.faultDemand.seq.leaderSeen = u.seq.leaderSeen
      ∧ u.faultDemand.prot.extStop = u.prot.extStop := by
    unfold State.faultDemand
    split
    · exact ⟨rfl, rfl⟩
    · exact ended u
  unfold State.takeCause
  dsimp only
  split
  · exact ⟨rfl, rfl⟩
  · rw [← captured.1, ← captured.2]
    split
    · exact fault _
    · exact stop _

/-- A stop cause under tension ends in PROTECT_STOP with a report unread, an entry with nothing active, pending or located
(R77, R84, R93, R172). -/
theorem takeCause_stops {s : State} {c : Cause} (a : CauseAxis) (hc : c.isFault = false)
    (hs : s.seq.transport.counting = true) :
    (s.takeCause c a).seq.transport = .protectStop ∧ (s.takeCause c a).prot.unread = true
      ∧ (s.seq.transport ≠ .protectStop → (s.takeCause c a).arb.active = none ∧ (s.takeCause c a).arb.slot = none
        ∧ (s.takeCause c a).locate.active = none) := by
  have threaded : s.seq.transport ≠ .unthreaded := fun h => by rw [h] at hs; cases hs
  refine ⟨?_, (takeCause_report c a threaded).1, fun hp => ?_⟩
  · by_cases hp : s.seq.transport = .protectStop
    · have stays : (s.capture c a).stopDemand = s.capture c a := stopDemand_none (.inl (by rw [capture_seq]; exact hp))
      simp [State.takeCause, hc, stays, hp]
    · rw [takeCause_stop a hc hs hp]
      rfl
  · obtain ⟨active, slot, locate⟩ : _ ∧ _ ∧ _ :=
      ⟨(endByProtection_spec (s.capture c a)).active, (endByProtection_spec (s.capture c a)).slot,
        (endByProtection_spec (s.capture c a)).locate⟩
    rw [takeCause_stop a hc hs hp]
    exact ⟨active, slot, locate⟩

theorem exec_leaderSensorChange {s : State} (h : Due.extStopCatch ∉ s.due) (reading : Leader) (first : Bool) :
    exec (.leaderSensorChange reading first) s = .next (s.leaderChange reading first) := by
  simp [exec, execLeaderSensorChange, takeCatches_of_not_mem h]

theorem exec_externalStopLineChange {s : State} (h : Due.extStopCatch ∉ s.due) (asserted : Bool) :
    exec (.externalStopLineChange asserted) s = .next (s.extStopChange asserted) := by
  simp [exec, execExternalStopLineChange, takeCatches_of_not_mem h]

/-- Leader appears at a change from TAPE to LEADER; any other reading is stored and does no more (R63, R74). -/
theorem leaderChange_eq (reading : Leader) (first : Bool) (s : State) :
    s.leaderChange reading first
      = if s.seq.leaderSeen = .tape ∧ reading = .leader then (s.seeLeader reading).leaderAppears first
        else s.seeLeader reading := by
  simp [State.leaderChange]

theorem endOfTapeHalt_unwatched {s : State} (h : s.seq.transport.watchesLeader = false) : s.endOfTapeHalt = s := by
  simp [State.endOfTapeHalt, h]

theorem endOfTapeHalt_watched {s : State} (h : s.seq.transport.watchesLeader = true) :
    s.endOfTapeHalt = (s.setTransport .halting (some .stopped)).recordStop := by
  simp [State.endOfTapeHalt, h]

/-- The end-of-tape halt leaves the measured speed, the parameters and the leader reading. -/
theorem endOfTapeHalt_frame (s : State) :
    s.endOfTapeHalt.speed.vMeas = s.speed.vMeas ∧ s.endOfTapeHalt.ports = s.ports
      ∧ s.endOfTapeHalt.seq.leaderSeen = s.seq.leaderSeen := by
  cases h : s.seq.transport.watchesLeader with
  | false => rw [endOfTapeHalt_unwatched h]; exact ⟨rfl, rfl, rfl⟩
  | true =>
    obtain ⟨-, -, -, measured, -⟩ :=
      setTransport_measured (s := s) (new := .halting) (some .stopped) (.inr (by simp))
    rw [endOfTapeHalt_watched h]
    exact ⟨measured, rfl, rfl⟩

theorem leaderCause_slow {s : State} (h : mag s.speed.vMeas ≤ paramOf s.ports.params Param.endSpeed) :
    s.leaderCause = s := by
  simp [State.leaderCause, State.takeCauseIf, State.param, not_lt.mpr h]

theorem leaderCause_fast {s : State} (h : paramOf s.ports.params Param.endSpeed < mag s.speed.vMeas) :
    s.leaderCause = s.takeCause .leader .none := by
  simp [State.leaderCause, State.takeCauseIf, State.param, h]

/-- At or below the end speed leader appearing is the halt, in either order (R74). -/
theorem leaderAppears_slow {s : State} (first : Bool) (h : mag s.speed.vMeas ≤ paramOf s.ports.params Param.endSpeed) :
    s.leaderAppears first = s.endOfTapeHalt := by
  obtain ⟨vMeas, ports, -⟩ := endOfTapeHalt_frame s
  cases first with
  | true => exact leaderCause_slow (by rw [vMeas, ports]; exact h)
  | false => exact congrArg State.endOfTapeHalt (leaderCause_slow h)

/-- Leader appearing keeps the reading just stored. -/
theorem leaderAppears_leaderSeen (s : State) (first : Bool) :
    (s.leaderAppears first).seq.leaderSeen = s.seq.leaderSeen := by
  have cause (u : State) : u.leaderCause.seq.leaderSeen = u.seq.leaderSeen := by
    unfold State.leaderCause State.takeCauseIf
    split
    · exact (takeCause_lines ..).1
    · rfl
  have halt (u : State) : u.endOfTapeHalt.seq.leaderSeen = u.seq.leaderSeen := (endOfTapeHalt_frame u).2.2
  cases first with
  | true => exact (cause _).trans (halt _)
  | false => exact (halt _).trans (cause _)

/-- Above the end speed leader appearing under tension ends in PROTECT_STOP in both orders (R74, R77, R177). -/
theorem leaderAppears_fast {s : State} (first : Bool) (h : paramOf s.ports.params Param.endSpeed < mag s.speed.vMeas)
    (hs : s.seq.transport.counting = true) :
    (s.leaderAppears first).seq.transport = .protectStop ∧ (s.leaderAppears first).prot.unread = true
      ∧ (s.seq.transport ≠ .protectStop →
        (s.leaderAppears first).arb.active = none ∧ (s.leaderAppears first).arb.slot = none) := by
  cases first with
  | true =>
    obtain ⟨vMeas, ports, -⟩ := endOfTapeHalt_frame s
    have e : s.leaderAppears true = s.endOfTapeHalt.takeCause .leader .none :=
      leaderCause_fast (by rw [vMeas, ports]; exact h)
    have under : s.endOfTapeHalt.seq.transport.counting = true
        ∧ (s.seq.transport ≠ .protectStop → s.endOfTapeHalt.seq.transport ≠ .protectStop) := by
      cases hw : s.seq.transport.watchesLeader with
      | true => rw [endOfTapeHalt_watched hw]; exact ⟨rfl, fun _ => nofun⟩
      | false => rw [endOfTapeHalt_unwatched hw]; exact ⟨hs, id⟩
    obtain ⟨state, unread, ends⟩ := takeCause_stops (s := s.endOfTapeHalt) (c := .leader) .none rfl under.1
    rw [e]
    exact ⟨state, unread, fun hp => ⟨(ends (under.2 hp)).1, (ends (under.2 hp)).2.1⟩⟩
  | false =>
    obtain ⟨state, unread, ends⟩ := takeCause_stops (s := s) (c := .leader) .none rfl hs
    have e : s.leaderAppears false = s.takeCause .leader .none :=
      (congrArg State.endOfTapeHalt (leaderCause_fast h)).trans (endOfTapeHalt_unwatched (by rw [state]; rfl))
    rw [e]
    exact ⟨state, unread, fun hp => ⟨(ends hp).1, (ends hp).2.1⟩⟩

/-- The line asserted takes EXT_STOP at its rising edge; any other level is stored and does no more (R178). -/
theorem extStopChange_eq (asserted : Bool) (s : State) :
    s.extStopChange asserted
      = if s.prot.extStop = false ∧ asserted = true then (s.setExtStop asserted).takeCause .extStop .none
        else s.setExtStop asserted := by
  simp [State.extStopChange, State.takeCauseIf]

/-- Settles O51. -/
theorem leaderAndExternalStopLineAct : Obligations.LeaderAndExternalStopLineAct := by
  refine ⟨fun reading first s hc => ⟨_, exec_leaderSensorChange hc reading first, ?_⟩,
    fun asserted s hc => ⟨_, exec_externalStopLineChange hc asserted, ?_⟩⟩
  · rw [leaderChange_eq]
    by_cases happ : s.seq.leaderSeen = .tape ∧ reading = .leader
    · rw [if_pos happ]
      refine ⟨leaderAppears_leaderSeen .., fun h => ?_, fun _ _ hv => ?_, fun _ _ hv hcount =>
        leaderAppears_fast first hv hcount⟩
      · rcases h with h | h <;> simp [h] at happ
      · rw [leaderAppears_slow first (s := s.seeLeader reading) hv]
        refine ⟨fun hw => endOfTapeHalt_unwatched hw, fun hw => ?_⟩
        obtain ⟨-, measuring, -⟩ := watchesLeader_cases hw
        rw [endOfTapeHalt_watched (s := s.seeLeader reading) hw]
        exact ⟨rfl, rfl, setTransport_keeps_prot (some .stopped) rfl, rfl, rfl, setTransport_vRef (some .stopped) rfl,
          setTransport_head (some .stopped) measuring (by simp), rfl⟩
    · rw [if_neg happ]
      exact ⟨rfl, fun _ => rfl, fun h1 h2 => absurd ⟨h1, h2⟩ happ, fun h1 h2 => absurd ⟨h1, h2⟩ happ⟩
  · rw [extStopChange_eq]
    by_cases hrise : s.prot.extStop = false ∧ asserted = true
    · rw [if_pos hrise]
      refine ⟨(takeCause_lines ..).2, fun h => ?_, fun _ _ hcount => ?_⟩
      · have unthreaded : s.seq.transport = .unthreaded := by simpa [hrise] using h
        exact if_pos unthreaded
      · obtain ⟨state, unread, ends⟩ :=
          takeCause_stops (s := s.setExtStop asserted) (c := .extStop) .none rfl hcount
        have threaded : s.seq.transport ≠ .unthreaded := fun h => by rw [h] at hcount; cases hcount
        obtain ⟨-, fresh, -⟩ := takeCause_report (s := s.setExtStop asserted) .extStop .none threaded
        exact ⟨state, unread, ends, fun hu => ⟨_, fresh (.inr hu), rfl, rfl, rfl⟩⟩
    · rw [if_neg hrise]
      exact ⟨rfl, fun _ => rfl, fun h1 h2 => absurd ⟨h2, h1⟩ hrise⟩

/-! ## The hand-over of a driving motion (R71, R73, R89, R156) -/

/-- The kinds whose start the stop line catches are the motions that drive the tape: what their hand-over keeps (R61, R89),
and the catch that follows it. -/
structure HandedOn (caught : List Due) (u t : State) : Prop where
  arb : t.arb = u.arb
  ports : t.ports = u.ports
  marks : t.marks = u.marks
  prot : t.prot = u.prot
  due : t.due = u.due ++ caught
  vRef : t.speed.vRef = u.speed.vRef
  head : u.seq.transport.isMeasuring = false → t.geom.head = u.geom.head
  map : u.seq.transport.reading = false → t.map = u.map

section HandedOn

variable {u : State}

theorem HandedOn.refl (u : State) : HandedOn [] u u :=
  ⟨rfl, rfl, rfl, rfl, (List.append_nil _).symm, rfl, fun _ => rfl, fun _ => rfl⟩

/-- The change of state of a hand-over is to a state that is not forced. -/
theorem setTransport_handedOn {new : Transport} (d : Option RestDest) (h : new.isForced = false) :
    HandedOn [] u (u.setTransport new d) where
  arb := rfl
  ports := rfl
  marks := rfl
  prot := setTransport_keeps_prot d h
  due := (List.append_nil _).symm
  vRef := setTransport_vRef d h
  head := fun hm => setTransport_head d hm (by rintro rfl; cases h)
  map := fun hr => setTransport_keeps_map d (.inl hr)

/-- A change beside the transport that follows the change of state. -/
theorem HandedOn.beside {caught : List Due} {t v : State} (h : HandedOn caught u t) (arb : v.arb = t.arb)
    (ports : v.ports = t.ports) (marks : v.marks = t.marks) (prot : v.prot = t.prot) (due : v.due = t.due)
    (vRef : v.speed.vRef = t.speed.vRef) (geom : v.geom = t.geom) (map : v.map = t.map) : HandedOn caught u v where
  arb := arb.trans h.arb
  ports := ports.trans h.ports
  marks := marks.trans h.marks
  prot := prot.trans h.prot
  due := due.trans h.due
  vRef := vRef.trans h.vRef
  head := fun hm => (congrArg _ geom).trans (h.head hm)
  map := fun hr => map.trans (h.map hr)

theorem startPlay_handedOn (how : StartKind) : HandedOn [] u (u.startPlay how) := by
  unfold State.startPlay
  split
  · exact .refl u
  · exact setTransport_handedOn none rfl

theorem startLocate_handedOn (inChase : Bool) (target : LocateTarget) :
    HandedOn [] u (u.startLocate inChase target) := by
  have phase (p : LocatePhase) : HandedOn [] u (u.setTransport (locateTransport inChase p) none) :=
    setTransport_handedOn none (by cases inChase <;> rfl)
  unfold State.startLocate State.choosePhase
  split
  · exact (phase .approach).beside rfl rfl rfl rfl rfl rfl rfl rfl
  · exact (phase .travel).beside rfl rfl rfl rfl rfl rfl rfl rfl

theorem handOver_handedOn (how : StartKind) {h : Held} (hc : h.req.kind.caught = true) :
    HandedOn [] u (u.handOver how h) := by
  unfold State.handOver
  split
  case h_1 e => rw [e] at hc; cases hc
  case h_2 => exact startPlay_handedOn how
  case h_3 | h_4 => exact (setTransport_handedOn none rfl).beside rfl rfl rfl rfl rfl rfl rfl rfl
  case h_9 e => rw [e] at hc; cases hc
  case h_10 e => rw [e] at hc; cases hc
  case h_11 e => rw [e] at hc; cases hc
  case h_12 => exact .refl u
  all_goals exact startLocate_handedOn ..

end HandedOn

/-- What a start leaves to follow it: the catch, while the stop line is asserted in LEVEL mode (R178). -/
def State.startCatch (s : State) : List Due :=
  if s.prot.extStop = true ∧ paramOf s.ports.params Param.extStopMode = 0 then [.extStopCatch] else []

theorem noteStart_eq {s : State} {k : MotionKind} (hk : k.caught = true) :
    s.noteStart k = s.setDue (s.due ++ s.startCatch) := by
  unfold State.noteStart State.raiseDue State.startCatch
  have caught_iff : (k.caught && s.prot.extStop && decide (s.param Param.extStopMode = 0)) = true
      ↔ s.prot.extStop = true ∧ paramOf s.ports.params Param.extStopMode = 0 := by
    rw [hk, Bool.true_and, Bool.and_eq_true, decide_eq_true_eq]
    rfl
  by_cases h : s.prot.extStop = true ∧ paramOf s.ports.params Param.extStopMode = 0
  · rw [if_pos (caught_iff.mpr h), if_pos h]
  · rw [if_neg (mt caught_iff.mp h), if_neg h, List.append_nil]
    rfl

/-- A waiting chase that the lockout refuses is granted by no examination (R83, R95). -/
theorem examineChase_refused {s : State} (h : s.arb.chase = .waiting →
    paramOf s.ports.params Param.chaseLevel < paramOf s.ports.params Param.lockoutLevel) : s.examineChase = s := by
  by_cases hw : s.arb.chase = .waiting
  · simp [State.examineChase, State.chaseGrantable, State.param, not_le.mpr (h hw)]
  · exact examineChase_of_not_waiting hw

section Begun

variable (s : State) (how : StartKind) (h : Held)

@[simp] theorem begun_locate : (s.begun how h).locate.active = none := by simp [State.begun]

@[simp] theorem begun_params : (s.begun how h).ports.params = s.ports.params := by
  simp [State.begun, State.pushReturn]
  split <;> simp

/-- The arbiter as a motion is handed over: the new record, and the return list of a locate (R84, R103). -/
theorem begun_arb : (s.begun how h).arb = { (s.beginStart how).arb with
    active := some { kind := h.req.kind, source := h.port.source, level := s.portLevel h.port }
    returns := (s.begun how h).arb.returns } := by
  have pushed (v : State) : (v.pushReturn h.req).arb = { v.arb with returns := (v.pushReturn h.req).arb.returns } := by
    unfold State.pushReturn
    split <;> simp [State.setReturns]
  have level : (((s.beginStart how).endLocate how.locateOutcome).pushReturn h.req).portLevel h.port
      = s.portLevel h.port := by
    have params := begun_params s how h
    simp only [State.begun, setRecord_ports] at params
    cases h.port <;> simp [State.portLevel, State.param, params]
  simp only [State.begun, level, State.setRecord, State.setActive]
  rw [pushed]
  simp

/-- A start that pushes no return entry begins as any other does. -/
theorem begun_eq_recorded (hp : h.req.pushesReturn = false) : s.begun how h = s.recorded how h := by
  simp [State.begun, State.recorded, State.pushReturn, hp]

end Begun

/-- The start of a driving motion is its hand-over, then the catch, where no waiting chase is granted over it. -/
theorem start_driving {s : State} {how : StartKind} {h : Held} (hc : h.req.kind.caught = true)
    (hw : (s.beginStart how).arb.chase = .waiting →
      paramOf s.ports.params Param.chaseLevel < paramOf s.ports.params Param.lockoutLevel) :
    s.start how h = ((s.begun how h).handOver how h).setDue (s.due ++ s.startCatch) := by
  have handed := handOver_handedOn (u := s.begun how h) how hc
  have prot := handed.prot
  have ports := congrArg PortUnit.params handed.ports
  have due := handed.due
  rw [begun_prot] at prot
  rw [begun_params] at ports
  rw [begun_due, List.append_nil] at due
  have caught : ((s.begun how h).handOver how h).startCatch = s.startCatch := by
    rw [State.startCatch, State.startCatch, prot, ports]
  rw [start_eq, noteStart_eq hc, due, caught, examineChase_refused]
  show ((s.begun how h).handOver how h).arb.chase = .waiting → paramOf ((s.begun how h).handOver how h).ports.params _
    < paramOf ((s.begun how h).handOver how h).ports.params _
  rw [handed.arb, begun_arb, ports]
  exact hw

/-- What the start of a driving motion keeps. -/
theorem start_handedOn {s : State} {how : StartKind} {h : Held} (hc : h.req.kind.caught = true)
    (hw : (s.beginStart how).arb.chase = .waiting →
      paramOf s.ports.params Param.chaseLevel < paramOf s.ports.params Param.lockoutLevel) :
    HandedOn s.startCatch (s.begun how h) (s.start how h) := by
  rw [start_driving hc hw]
  have handed := handOver_handedOn (u := s.begun how h) how hc
  exact ⟨handed.arb, handed.ports, handed.marks, handed.prot, by rw [begun_due]; rfl, handed.vRef, handed.head, handed.map⟩

/-! ## A request that starts a driving motion (R64, R83 to R88) -/

/-- The transport is open to a driving motion of a port: in STOPPED, or over an active motion of the same source or a lower
level (R86 to R88). -/
def State.opensTo (port : Port) (s : State) : Prop :=
  s.seq.transport = .stopped
    ∨ ((s.seq.transport.watchesLeader = true ∨ (∃ p, s.seq.transport = .locate p)
        ∨ (s.seq.transport = .halting ∧ s.arb.chase ≠ .starting))
      ∧ ∃ m, s.arb.active = some m ∧ (m.source = port.source ∨ m.level < s.portLevel port))

/-- The states that judge a request against the active motion (R88). -/
theorem judge_active {s : State} {h : Held} (hr : h.req ≠ .stop) (ht : s.seq.transport.watchesLeader = true
    ∨ (∃ p, s.seq.transport = .locate p) ∨ (s.seq.transport = .halting ∧ s.arb.chase ≠ .starting)) :
    s.judge h = s.judgeActive h := by
  rcases ht with ht | ⟨p, ht⟩ | ⟨ht, hc⟩
  · obtain ⟨-, -, -, -, ⟨p, ht⟩ | ht | ht⟩ := watchesLeader_cases ht <;> simp [State.judge, ht]
  · simp [State.judge, ht]
  · simp [State.judge, ht, hr, hc]

/-- The states open to a motion. -/
theorem opensTo_cases {s : State} {port : Port} (h : s.opensTo port) :
    s.seq.transport = .stopped ∨ (∃ p, s.seq.transport = .play p) ∨ s.seq.transport = .wind
      ∨ s.seq.transport = .shuttle ∨ (∃ p, s.seq.transport = .locate p) ∨ s.seq.transport = .halting := by
  rcases h with h | ⟨h | h | h, -⟩
  · exact .inl h
  · obtain ⟨-, -, -, -, h | h | h⟩ := watchesLeader_cases h <;> simp [h]
  · simp [h]
  · simp [h.1]

/-- What R64 names for STOPPED it names for every state open to a motion; none of these is CHASE or MEASURING. -/
theorem opensTo_states {s : State} {port : Port} (h : s.opensTo port) :
    s.seq.transport.isChase = false ∧ s.seq.transport.isMeasuring = false
      ∧ ∀ req : MotionReq, req.validIn .stopped = true → req.validIn s.seq.transport = true := by
  rcases opensTo_cases h with h | ⟨p, h⟩ | h | h | ⟨p, h⟩ | h <;> rw [h] <;>
    exact ⟨rfl, rfl, fun req hv => by cases req <;> first | rfl | cases hv⟩

/-- The states and phases open to a motion in which the capstan drives the tape (R71). -/
theorem opensTo_driven {s : State} {port : Port} (h : s.opensTo port) :
    s.seq.transport.capstanActive s.speed.kind = true
      ↔ s.seq.transport = .play .engage ∨ s.seq.transport = .play .running ∨ s.seq.transport = .locate .approach
        ∨ s.seq.transport = .locate .verify
        ∨ ((s.seq.transport = .play .braking ∨ s.seq.transport = .halting) ∧ s.speed.kind = some .capstan) := by
  rcases opensTo_cases h with h | ⟨p, h⟩ | h | h | ⟨p, h⟩ | h <;> rw [h]
  case inr.inl => cases p <;> simp [Transport.capstanActive, Transport.genMode]
  case inr.inr.inr.inr.inl => cases p <;> simp [Transport.capstanActive, Transport.genMode]
  all_goals simp [Transport.capstanActive, Transport.genMode]

/-- A request for a driving motion is started, in place of the active motion exactly when its source is the same (R88). -/
theorem motion_starts {s : State} {port : Port} {req : MotionReq} (h : s.opensTo port)
    (hl : paramOf s.ports.params Param.lockoutLevel ≤ s.portLevel port) (ho : s.operandTest req = none)
    (hv : req.validIn .stopped = true) (hc : req.kind.caught = true) (hr : req ≠ .returnBack) :
    ∃ how, (how = .fresh ∨ how = .replace ∨ how = .preempt)
      ∧ (how = .replace ↔ s.seq.transport ≠ .stopped ∧ ∃ m, s.arb.active = some m ∧ m.source = port.source)
      ∧ s.motion port req = s.tryStart how (freshHeld port req) := by
  obtain ⟨chase, -, valid⟩ := opensTo_states h
  have stop : req ≠ .stop := by rintro rfl; cases hc
  rw [motion_eq_judge ho (admission_passes (valid req hv) chase hl) hr]
  rcases h with h | ⟨ht, m, hm, hor⟩
  · exact ⟨.fresh, .inl rfl, by simp [h], by simp [State.judge, h, freshHeld, stop]⟩
  · have moving : s.seq.transport ≠ .stopped := by rintro e; simp [e, Transport.watchesLeader] at ht
    rw [judge_active stop ht]
    by_cases hs : m.source = port.source
    · exact ⟨.replace, .inr (.inl rfl), by simp [moving, hm, hs], by simp [State.judgeActive, hm, hs, freshHeld]⟩
    · exact ⟨.preempt, .inr (.inr rfl), by simp [hm, hs],
        by simp [State.judgeActive, hm, hs, freshHeld, hor.resolve_left hs]⟩

/-- No start but a break of a chase touches the arbiter before its record (R88, R100). -/
theorem beginStart_arb {s : State} {how : StartKind} (h : how = .fresh ∨ how = .replace ∨ how = .preempt) :
    (s.beginStart how).arb = s.arb := by
  rcases h with rfl | rfl | rfl <;> rfl

/-- What the start of a driving motion over an open transport leaves: its record, and everything beside the motion as it
stood (R84, R89). -/
structure DriveStarted (h : Held) (s t : State) : Prop where
  active : t.arb.active = some { kind := h.req.kind, source := h.port.source, level := s.portLevel h.port }
  arb : h.req.pushesReturn = false → t.arb = { s.arb with
    active := some { kind := h.req.kind, source := h.port.source, level := s.portLevel h.port } }
  vRef : t.speed.vRef = s.speed.vRef
  marks : t.marks = s.marks
  head : t.geom.head = s.geom.head
  due : t.due = s.due ++ s.startCatch

theorem start_driveStarted {s : State} {how : StartKind} {h : Held} (hc : h.req.kind.caught = true)
    (hhow : how = .fresh ∨ how = .replace ∨ how = .preempt) (hm : s.seq.transport.isMeasuring = false)
    (hw : s.arb.chase = .waiting →
      paramOf s.ports.params Param.chaseLevel < paramOf s.ports.params Param.lockoutLevel) :
    DriveStarted h s (s.start how h) := by
  have begun := beginStart_arb hhow (s := s)
  have handed := start_handedOn hc (s := s) (how := how) (by rw [begun]; exact hw)
  refine ⟨by rw [handed.arb, begun_arb], fun hp => ?_, handed.vRef.trans (by rw [begun_speed]),
    handed.marks.trans (by rw [begun_marks]), (handed.head (by rw [begun_seq]; exact hm)).trans (by rw [begun_geom]),
    handed.due.trans (by rw [begun_due])⟩
  rw [handed.arb, begun_eq_recorded s how h hp, recorded_arb, begun]

/-! ## The aim of a locate (R157) -/

/-- A length of a list as near the head as any, the lower at equal distance (R157). -/
def IsNearest (head : Int) (ls : List Int) (l : Int) : Prop :=
  l ∈ ls ∧ ∀ k ∈ ls, mag (l - head) ≤ mag (k - head) ∧ (mag (l - head) = mag (k - head) → l ≤ k)

/-- One more length: the nearer of it and the nearest of the others. -/
theorem IsNearest.cons {head b k l : Int} {ls : List Int} (hk : k = b ∨ k = l)
    (hb : mag (k - head) ≤ mag (b - head) ∧ (mag (k - head) = mag (b - head) → k ≤ b))
    (hl : mag (k - head) ≤ mag (l - head) ∧ (mag (k - head) = mag (l - head) → k ≤ l)) {m : Int}
    (hm : IsNearest head (k :: ls) m) : IsNearest head (b :: l :: ls) m := by
  obtain ⟨mem, least⟩ := hm
  refine ⟨?_, fun j hj => ?_⟩
  · rcases List.mem_cons.mp mem with rfl | h
    · rcases hk with rfl | rfl <;> simp
    · simp [h]
  · have near := least k (by simp)
    rcases List.mem_cons.mp hj with rfl | hj
    · exact ⟨near.1.trans hb.1, fun e => by omega⟩
    · rcases List.mem_cons.mp hj with rfl | hj
      · exact ⟨near.1.trans hl.1, fun e => by omega⟩
      · exact least j (by simp [hj])

theorem foldl_nearerLength (head : Int) (ls : List Int) (b : Int) :
    ∃ l, ls.foldl (nearerLength head) (some b) = some l ∧ IsNearest head (b :: ls) l := by
  induction ls generalizing b with
  | nil => exact ⟨b, rfl, by simp, by simp⟩
  | cons k ls ih =>
    simp only [List.foldl_cons, nearerLength]
    split
    · next h =>
      obtain ⟨l, hl, near⟩ := ih k
      exact ⟨l, hl, near.cons (.inr rfl) (by omega) ⟨le_rfl, fun _ => le_rfl⟩⟩
    · next h =>
      obtain ⟨l, hl, near⟩ := ih b
      exact ⟨l, hl, near.cons (.inl rfl) ⟨le_rfl, fun _ => le_rfl⟩ (by omega)⟩

/-- Of one length or more, the nearest is found (R157). -/
theorem nearestLength_spec (head : Int) {ls : List Int} (h : ls ≠ []) :
    ∃ l, nearestLength head ls = some l ∧ IsNearest head ls l := by
  cases ls with
  | nil => exact absurd rfl h
  | cons b ls => exact foldl_nearerLength head ls b

/-- A list of spans has a nearest span to every address (R157). -/
theorem nearestSpan_isSome {spans : List Span} (h : spans ≠ []) (a : Int) : ∃ p, nearestSpan spans a = some p := by
  have found (ps : List Span) (q : Span) : ∃ p, ps.foldl (nearerSpan a) (some q) = some p := by
    induction ps generalizing q with
    | nil => exact ⟨q, rfl⟩
    | cons p ps ih =>
      simp only [List.foldl_cons, nearerSpan]
      split <;> exact ih _
  cases spans with
  | nil => exact absurd rfl h
  | cons q ps => exact found ps q

/-- The aim at an address of the map: in it, at the nearest of its lengths. -/
theorem heldAim_spec (head a : Int) {ls : List Int} (h : ls ≠ []) :
    ∃ m, heldAim head a ls = some m ∧ m.address = some a ∧ m.state = some .inMap ∧ IsNearest head ls m.length := by
  obtain ⟨l, hl, near⟩ := nearestLength_spec head h
  exact ⟨{ length := l, address := some a, state := some .inMap }, by rw [heldAim, hl]; rfl, rfl, rfl, near⟩

/-- The aim at an address outside the map: extrapolated through the nearest span. -/
theorem extrapolated_spec {spans : List Span} (h : spans ≠ []) (a : Int) :
    ∃ m, extrapolated spans a = some m ∧ m.address = some a ∧ m.state = some .notInMap
      ∧ ∀ p, nearestSpan spans a = some p → m.length = p.lengthOf a := by
  obtain ⟨p, hp⟩ := nearestSpan_isSome h a
  refine ⟨{ length := p.lengthOf a, address := some a, state := some .notInMap }, by rw [extrapolated, hp]; rfl, rfl, rfl,
    fun q hq => ?_⟩
  rw [hp] at hq
  cases hq
  rfl

/-- What R157 finds at an address, by the number of spans that hold it. -/
def AddressAim (spans : List Span) (head a : Int) (q : Aim) : Prop :=
  (∀ p, spans.filter (fun p => p.hasAddress a) = [p] → q.length = p.lengthOf a ∧ q.state = some .inMap)
    ∧ (2 ≤ (spans.filter (fun p => p.hasAddress a)).length → q.state = some .inMap
      ∧ IsNearest head ((spans.filter (fun p => p.hasAddress a)).map (fun p => p.lengthOf a)) q.length)
    ∧ (spans.filter (fun p => p.hasAddress a) = [] → q.state = some .notInMap
      ∧ ∀ p, nearestSpan spans a = some p → q.length = p.lengthOf a)

theorem addressAim_spec {spans : List Span} (h : spans ≠ []) (head a : Int) :
    ∃ q, addressAim spans head a = some q ∧ q.address = some a ∧ AddressAim spans head a q := by
  unfold addressAim AddressAim
  cases hf : spans.filter (fun p => p.hasAddress a) with
  | nil =>
    obtain ⟨q, hq, address, state, length⟩ := extrapolated_spec h a
    exact ⟨q, hq, address, nofun, nofun, fun _ => ⟨state, length⟩⟩
  | cons p ps =>
    obtain ⟨q, hq, address, state, near⟩ := heldAim_spec head a
      (ls := (p :: ps).map (fun p => p.lengthOf a)) (by simp)
    refine ⟨q, hq, address, fun o ho => ⟨?_, state⟩, fun _ => ⟨state, near⟩, nofun⟩
    cases ho
    exact List.mem_singleton.mp near.1

/-- An AMBIGUOUS mark that stands as R134 resolves it has a candidate, whose span is in the list (R131, R134). -/
theorem candidateLengths_ne_nil {spans : List Span} {m : Mark} {ns : List Nat} (hr : m.resolution = .ambiguous ns)
    (hm : m.resolution.unconfirmed = resolve spans m.address) : m.candidateLengths spans ≠ [] := by
  rw [hr, resolve] at hm
  cases hf : spans.filter (fun p => p.hasAddress m.address) with
  | nil => rw [hf] at hm; cases hm
  | cons p ps =>
    cases ps with
    | nil => rw [hf] at hm; cases hm
    | cons q ps =>
      rw [hf] at hm
      cases hm
      have held : p ∈ spans := List.mem_of_mem_filter (hf ▸ List.mem_cons_self)
      have found : (spanByNum spans p.num).isSome = true := List.find?_isSome.mpr ⟨p, held, by simp⟩
      obtain ⟨o, ho⟩ := Option.isSome_iff_exists.mp found
      simp [Mark.candidateLengths, hr, Resolution.candidates, List.filterMap_cons, ho]

/-- What R157 finds at a mark, by its resolution. -/
def MarkAim (spans : List Span) (head : Int) (m : Mark) (q : Aim) : Prop :=
  (∀ k l, m.resolution = .resolved k l ∨ m.resolution = .confirmed k l → q.length = l ∧ q.state = some .inMap)
    ∧ (∀ ns, m.resolution = .ambiguous ns → q.state = some .inMap
      ∧ IsNearest head ((m.candidateLengths spans).map (fun c => c.2)) q.length)
    ∧ (m.resolution = .unresolved → q.state = some .notInMap
      ∧ ∀ p, nearestSpan spans m.address = some p → q.length = p.lengthOf m.address)

theorem markAim_spec {spans : List Span} (h : spans ≠ []) (head : Int) {m : Mark}
    (hm : m.resolution.unconfirmed = resolve spans m.address) :
    ∃ q, m.aim spans head = some q ∧ q.address = some m.address ∧ MarkAim spans head m q := by
  unfold MarkAim
  unfold Mark.aim
  cases hr : m.resolution with
  | resolved n l => exact ⟨_, rfl, rfl, fun k l' e => by rcases e with e | e <;> cases e; exact ⟨rfl, rfl⟩, nofun, nofun⟩
  | confirmed n l => exact ⟨_, rfl, rfl, fun k l' e => by rcases e with e | e <;> cases e; exact ⟨rfl, rfl⟩, nofun, nofun⟩
  | ambiguous ns =>
    obtain ⟨q, hq, address, state, near⟩ := heldAim_spec head m.address
      (ls := (m.candidateLengths spans).map (fun c => c.2)) (by simpa using candidateLengths_ne_nil hr hm)
    exact ⟨q, hq, address, fun _ _ e => e.elim nofun nofun, fun _ _ => ⟨state, near⟩, nofun⟩
  | unresolved =>
    obtain ⟨q, hq, address, state, length⟩ := extrapolated_spec h m.address
    exact ⟨q, hq, address, fun _ _ e => e.elim nofun nofun, nofun, fun _ => ⟨state, length⟩⟩

/-! ## The start of a locate (R156 to R159) -/

/-- The record of a locate as it starts (R154, R156). -/
def State.freshRecord (s : State) (target : LocateTarget) : LocateRecord :=
  s.recompute (.fresh target (s.param Param.retryLimit).toNat)

/-- The record of a locate whose target is found. -/
theorem freshRecord_of_aim {s : State} {target : LocateTarget} {q : Aim} (h : s.aimOf target = some q) :
    s.freshRecord target
      = { target := target, aim := q.length, targetAddr := q.address, offset := s.offsetOf 0 target,
          stopPoint := clampLength (q.length + s.offsetOf 0 target), targetState := q.state, retries := 0,
          limit := (s.param Param.retryLimit).toNat, newest := none, lastError := none } := by
  unfold State.freshRecord State.recompute LocateRecord.fresh
  rw [h]

/-- A recompute keeps the newest report of the pass. -/
theorem freshRecord_newest (s : State) (target : LocateTarget) : (s.freshRecord target).newest = none := by
  unfold State.freshRecord State.recompute
  dsimp only
  split <;> rfl

/-- The test of R159, spelt. -/
theorem approachAtOnce_iff (s : State) (r : LocateRecord) :
    s.approachAtOnce r = true
      ↔ r.stopPoint - paramOf s.ports.params Param.approachDistance ≤ s.headNow ∧ s.headNow ≤ r.stopPoint
        ∧ (s.speed.vRef = 0 ∨ (0 < s.speed.vRef ∧ s.seq.transport.capstanActive s.speed.kind = true)) := by
  simp [State.approachAtOnce, State.approachPoint, State.param, and_assoc]

/-- The phase chosen for a verifying locate outside CHASE, and the point it heads for (R159). -/
theorem choosePhase_travel {u : State} {r : LocateRecord} (hv : r.target.verifying = true) (hn : r.newest = none) :
    (u.choosePhase false .travel r).locate.active = some r
      ∧ (u.approachAtOnce r = true → (u.choosePhase false .travel r).seq.transport = .locate .approach
        ∧ (u.choosePhase false .travel r).speed.stopPoint = some r.stopPoint)
      ∧ (u.approachAtOnce r = false → (u.choosePhase false .travel r).seq.transport = .locate .travel
        ∧ (u.choosePhase false .travel r).speed.stopPoint
          = some (r.stopPoint - paramOf u.ports.params Param.approachDistance)) := by
  have newest : { r with newest := none } = r := by rw [← hn]
  rw [State.choosePhase, hv, Bool.true_and, if_pos rfl, newest]
  split
  · next h => exact ⟨rfl, fun _ => ⟨rfl, rfl⟩, fun hf => by rw [h] at hf; cases hf⟩
  · next h => exact ⟨rfl, fun ht => absurd ht h, fun _ => ⟨rfl, rfl⟩⟩

/-- A verifying locate outside CHASE starts in APPROACH or in TRAVEL, and heads for its point (R159). -/
theorem startLocate_spec (u : State) {target : LocateTarget} (hv : target.verifying = true) :
    (u.startLocate false target).locate.active = some (u.freshRecord target)
      ∧ (u.approachAtOnce (u.freshRecord target) = true →
        (u.startLocate false target).seq.transport = .locate .approach
          ∧ (u.startLocate false target).speed.stopPoint = some (u.freshRecord target).stopPoint)
      ∧ (u.approachAtOnce (u.freshRecord target) = false →
        (u.startLocate false target).seq.transport = .locate .travel
          ∧ (u.startLocate false target).speed.stopPoint
            = some ((u.freshRecord target).stopPoint - paramOf u.ports.params Param.approachDistance)) := by
  have kept : (u.freshRecord target).target.verifying = true := by
    rw [← hv]
    exact congrArg _ (recompute_keeps u _).1
  exact choosePhase_travel kept (freshRecord_newest u target)

/-- What a locate by mark or address reads as it begins stands as before the request. -/
theorem begun_freshRecord (s : State) (how : StartKind) (h : Held) (target : LocateTarget) :
    (s.begun how h).freshRecord target = s.freshRecord target := by
  have limit : (s.begun how h).param Param.retryLimit = s.param Param.retryLimit := by simp [State.param]
  rw [State.freshRecord, State.freshRecord, limit]
  exact recompute_congr (by simp) (by simp) (by simp) (by simp) _

/-- The retry limit and the stopping point as R154 and R158 bound them. -/
theorem freshRecord_bounds {s : State} {target : LocateTarget} {q : Aim} (h : s.aimOf target = some q) :
    ((s.freshRecord target).limit : Int) = max 0 (paramOf s.ports.params Param.retryLimit)
      ∧ (s.freshRecord target).stopPoint
        = max (-8388608) (min 8388607 ((s.freshRecord target).aim + (s.freshRecord target).offset)) := by
  rw [freshRecord_of_aim h]
  exact ⟨(Int.toNat_eq_max _).trans (max_comm _ _), clampTo_eq_max_min (by decide) _⟩

/-- A locate by mark or address over an open transport: its record, and its phase with the point it heads for (R156,
R159). -/
structure LocateStarted (s : State) (target : LocateTarget) (t : State) : Prop where
  record : t.locate.active = some (s.freshRecord target)
  approach : s.approachAtOnce (s.freshRecord target) = true →
    t.seq.transport = .locate .approach ∧ t.speed.stopPoint = some (s.freshRecord target).stopPoint
  travel : s.approachAtOnce (s.freshRecord target) = false → t.seq.transport = .locate .travel
    ∧ t.speed.stopPoint
      = some ((s.freshRecord target).stopPoint - paramOf s.ports.params Param.approachDistance)

/-- The requests of the locates that read the map. -/
def MotionReq.reads (req : MotionReq) (target : LocateTarget) : Prop :=
  (∃ a, req = .locateAddress a ∧ target = .address a) ∨ (∃ n : Nat, req = .locateMark n ∧ target = .mark n)

/-- Such a request is a locate that verifies, and its hand-over is the start of the locate. -/
theorem reads_spec {req : MotionReq} {target : LocateTarget} (h : req.reads target) (port : Port) :
    req.kind = .locate ∧ target.verifying = true
      ∧ ∀ (how : StartKind) (u : State), u.handOver how (freshHeld port req) = u.startLocate false target := by
  rcases h with ⟨a, rfl, rfl⟩ | ⟨n, rfl, rfl⟩
  · exact ⟨rfl, rfl, fun _ _ => rfl⟩
  · exact ⟨rfl, rfl, fun _ _ => rfl⟩

theorem start_locates {s : State} {port : Port} {req : MotionReq} {target : LocateTarget} {how : StartKind}
    (hreq : req.reads target) (hw : (s.beginStart how).arb.chase = .waiting →
      paramOf s.ports.params Param.chaseLevel < paramOf s.ports.params Param.lockoutLevel) :
    LocateStarted s target (s.start how (freshHeld port req)) := by
  obtain ⟨kind, verifying, handOver⟩ := reads_spec hreq port
  obtain ⟨record, approach, travel⟩ := startLocate_spec (s.begun how (freshHeld port req)) verifying
  have atOnce (r : LocateRecord) : (s.begun how (freshHeld port req)).approachAtOnce r = s.approachAtOnce r := by
    rw [Bool.eq_iff_iff, approachAtOnce_iff, approachAtOnce_iff, State.headNow, State.headNow, begun_geom, begun_speed,
      begun_seq, begun_params]
  rw [begun_freshRecord] at record approach travel
  rw [atOnce] at approach travel
  rw [begun_params] at travel
  have caught : (freshHeld port req).req.kind.caught = true := congrArg MotionKind.caught kind
  rw [start_driving caught hw, handOver]
  exact ⟨record, approach, travel⟩

/-! ## The first phases (R71, R73, R156, R159) -/

/-- PLAY keeps its phase where it replaces PLAY, and else runs on under the capstan or brakes (R71). -/
theorem startPlay_eq {u : State} {how : StartKind} (h : how ≠ .replace ∨ ∀ p, u.seq.transport ≠ .play p) :
    u.startPlay how
      = u.setTransport (.play (if u.seq.transport.capstanActive u.speed.kind then .running else .braking)) none := by
  unfold State.startPlay
  split
  · next p hp => exact absurd hp (h.resolve_left (not_not.mpr rfl) p)
  · rfl

theorem startPlay_replace {u : State} {p : PlayPhase} (h : u.seq.transport = .play p) :
    u.startPlay .replace = u := by
  simp [State.startPlay, h]

theorem startPlay_locate (u : State) (how : StartKind) :
    (u.startPlay how).locate.active = u.locate.active := by
  unfold State.startPlay
  split <;> rfl

/-- The tests of a locate by mark or address whose operand is good: only an empty map refuses it (R155, R156). -/
theorem reads_tests {s : State} {req : MotionReq} {target : LocateTarget} {a : Int}
    (h : (req = .locateAddress a ∧ target = .address a ∧ 0 ≤ a ∧ a ≤ 16777215)
      ∨ ∃ (n : Nat) (m : Mark), req = .locateMark n ∧ n ≤ 127 ∧ markAt s.marks n = some m ∧ target = .mark n
        ∧ a = m.address ∧ MarksResolved s) (port : Port) :
    req.reads target ∧ s.operandTest req = none ∧ s.startCheck (freshHeld port req) = s.mapTest
      ∧ req.validIn .stopped = true ∧ req ≠ .returnBack := by
  rcases h with ⟨rfl, rfl, lo, hi⟩ | ⟨n, m, rfl, hn, hm, rfl, rfl, -⟩
  · exact ⟨.inl ⟨a, rfl, rfl⟩, by simp [State.operandTest, lo, hi], rfl, rfl, by simp⟩
  · have range : (0 : Int) ≤ n ∧ (n : Int) ≤ 127 := by omega
    exact ⟨.inr ⟨n, rfl, rfl⟩, by simp [State.operandTest, range, hm], by simp [State.startCheck, freshHeld, hm], rfl,
      by simp⟩

/-- The aim of a locate by mark or address over a map that holds a span (R157). -/
theorem startAim_spec {s : State} {req : MotionReq} {target : LocateTarget} {a : Int}
    (h : (req = .locateAddress a ∧ target = .address a ∧ 0 ≤ a ∧ a ≤ 16777215)
      ∨ ∃ (n : Nat) (m : Mark), req = .locateMark n ∧ n ≤ 127 ∧ markAt s.marks n = some m ∧ target = .mark n
        ∧ a = m.address ∧ MarksResolved s) (hmap : s.map.spans ≠ []) :
    ∃ q, s.aimOf target = some q ∧ q.address = some a
      ∧ (target = .address a → AddressAim s.map.spans s.headNow a q)
      ∧ ∀ n m, target = .mark n → markAt s.marks n = some m → m.address = a ∧ MarkAim s.map.spans s.headNow m q := by
  rcases h with ⟨-, rfl, -, -⟩ | ⟨n, m, -, -, hm, rfl, rfl, resolved⟩
  · obtain ⟨q, hq, address, spec⟩ := addressAim_spec hmap s.headNow a
    exact ⟨q, hq, address, fun _ => spec, nofun⟩
  · obtain ⟨q, hq, address, spec⟩ := markAim_spec hmap s.headNow (resolved m (markAt_mem hm))
    refine ⟨q, by rw [State.aimOf, hm]; exact hq, address, nofun, fun k p e hp => ?_⟩
    cases e
    rw [hm] at hp
    cases hp
    exact ⟨rfl, spec⟩

/-- Settles O57: each request is judged to a start over the open transport, whose hand-over chooses the first phase. -/
theorem motionsStartInTheirFirstPhase : Obligations.MotionsStartInTheirFirstPhase := by
  intro port driven s caught hw hcaught hl hopen hdriven
  have opens : s.opensTo port := hopen
  have hd := (opensTo_driven opens).trans hdriven.symm
  obtain ⟨-, measuring, -⟩ := opensTo_states opens
  subst hcaught
  have refused {how : StartKind} (hhow : how = .fresh ∨ how = .replace ∨ how = .preempt) :
      (s.beginStart how).arb.chase = .waiting →
        paramOf s.ports.params Param.chaseLevel < paramOf s.ports.params Param.lockoutLevel := by
    rw [beginStart_arb hhow]
    exact fun h => absurd h hw
  refine ⟨?_, fun v => ?_, fun n hn hnone => ?_, fun req target a hreq => ⟨fun hmap => ?_, fun h hh hmap => ?_⟩⟩
  · obtain ⟨how, hhow, replaces, motion⟩ := motion_starts (req := .play) opens hl rfl rfl rfl (by simp)
    have started := start_driveStarted (s := s) (h := freshHeld port .play) rfl hhow measuring (fun h => absurd h hw)
    have e := start_driving (h := freshHeld port .play) rfl (refused hhow)
    refine ⟨_, motion.trans (tryStart_of_check rfl), fun ⟨p, hp⟩ ⟨m, hm, hsrc⟩ => ?_, fun hor => ?_, started.arb rfl,
      started.vRef, ?_, started.marks, started.head, started.due⟩
    · have same : how = .replace := replaces.mpr ⟨by rw [hp]; simp, m, hm, hsrc⟩
      rw [e, same]
      have stays := startPlay_replace (u := s.begun .replace (freshHeld port .play)) (p := p) (by rw [begun_seq, hp])
      exact ⟨(congrArg State.seq stays).trans (begun_seq ..), (congrArg State.speed stays).trans (begun_speed ..)⟩
    · have anew := startPlay_eq (u := s.begun how (freshHeld port .play)) (how := how) (by
        rw [begun_seq]
        exact hor.elim .inr fun h => .inl fun hr => by
          obtain ⟨-, m, hm, hsrc⟩ := replaces.mp hr
          exact h m hm hsrc)
      rw [begun_seq, begun_speed] at anew
      have shape : s.start how (freshHeld port .play)
          = ((s.begun how (freshHeld port .play)).setTransport
            (.play (if s.seq.transport.capstanActive s.speed.kind then .running else .braking)) none).setDue
              (s.due ++ s.startCatch) := by
        rw [e, ← anew]
        rfl
      rw [shape]
      refine ⟨fun d => ?_, fun nd => ?_⟩
      · rw [if_pos (hd.mpr d)]
        exact ⟨rfl, (setTransport_keeps_loop none rfl).trans (by rw [begun_speed]), rfl⟩
      · rw [if_neg (mt hd.mp nd)]
        rfl
    · rw [e]
      exact (startPlay_locate ..).trans (begun_locate ..)
  · obtain ⟨how, hhow, -, motion⟩ := motion_starts (req := .shuttle v) opens hl rfl rfl rfl (by simp)
    have started :=
      start_driveStarted (s := s) (h := freshHeld port (.shuttle v)) rfl hhow measuring (fun h => absurd h hw)
    have e := start_driving (h := freshHeld port (.shuttle v)) rfl (refused hhow)
    refine ⟨_, motion.trans (tryStart_of_check rfl), ?_, ?_, ?_, ?_, started.arb rfl, started.vRef, ?_, started.marks,
      started.head, started.due⟩
    all_goals rw [e]
    · rfl
    · rfl
    · rfl
    · rfl
    · exact begun_locate ..
  · simp [State.motion, State.operandTest, hn, hnone]
  · obtain ⟨reads, operand, check, valid, notReturn⟩ := reads_tests hreq port
    obtain ⟨how, -, -, motion⟩ := motion_starts opens hl operand valid
      (by rw [(reads_spec reads port).1]; rfl) notReturn
    rw [motion, State.tryStart, check, State.mapTest, hmap]
    rfl
  · obtain ⟨reads, operand, check, valid, notReturn⟩ := reads_tests hreq port
    obtain ⟨kind, verifying, -⟩ := reads_spec reads port
    have drives : (freshHeld port req).req.kind.caught = true := congrArg MotionKind.caught kind
    obtain ⟨how, hhow, -, motion⟩ := motion_starts opens hl operand valid drives notReturn
    have started := start_driveStarted (s := s) drives hhow measuring (fun h => absurd h hw)
    have locate := start_locates (port := port) reads (refused hhow)
    have active := started.active
    rw [show (freshHeld port req).req.kind = .locate from kind] at active
    have passes : s.startCheck (freshHeld port req) = none := by
      rw [check, State.mapTest, if_neg (by simpa using hmap)]
    have head : s.headNow = h := by rw [State.headNow, hh]; rfl
    have phase := approachAtOnce_iff s (s.freshRecord target)
    rw [head, hd] at phase
    obtain ⟨q, aim, address, onAddress, onMark⟩ := startAim_spec hreq hmap
    rw [head] at onAddress onMark
    have record := freshRecord_of_aim aim
    obtain ⟨limit, stopPoint⟩ := freshRecord_bounds aim
    refine ⟨_, s.freshRecord target, motion.trans (tryStart_of_check passes), locate.record, by rw [record],
      by rw [record, address], by rw [record], by rw [record], by rw [record], limit, stopPoint, fun e => ?_,
      fun n m e hm => ?_, fun first hfirst => ⟨fun hf => ?_, fun hf => ?_⟩, active, started.vRef, started.marks,
      started.head, started.due⟩
    · obtain ⟨one, many, outside⟩ := onAddress e
      rw [record]
      refine ⟨by rw [e, State.offsetOf]; rfl, one, ?_, fun hf p hp => ⟨(outside hf).2 p hp, (outside hf).1⟩⟩
      rintro ls rfl hlen
      exact many (by simpa using hlen)
    · obtain ⟨rfl, resolved, ambiguous, unresolved⟩ := onMark n m e hm
      rw [record]
      refine ⟨by rw [e, State.offsetOf, hm]; rfl, resolved, ?_, ?_⟩
      · rintro ns hr ls rfl
        exact ambiguous ns hr
      · exact fun hr p hp => ⟨(unresolved hr).2 p hp, (unresolved hr).1⟩
    · exact locate.approach (phase.mpr (hfirst.mp hf))
    · exact locate.travel (by simpa using fun ha => hf (hfirst.mpr (phase.mp ha)))


/-! ## The entry to STOPPED (R70, R92) -/

/-- A chase request that waits is refused by the lockout test (R83, R95). -/
def State.holdsChaseOff (s : State) : Prop :=
  s.arb.chase = .waiting → paramOf s.ports.params Param.chaseLevel < paramOf s.ports.params Param.lockoutLevel

/-- The map, the parameters and the protection unit as they were. -/
structure KeepsRecords (u t : State) : Prop where
  map : t.map = u.map
  params : t.ports.params = u.ports.params
  prot : t.prot = u.prot

section KeepsRecords

variable {u v t : State}

theorem KeepsRecords.refl (u : State) : KeepsRecords u u := ⟨rfl, rfl, rfl⟩

theorem KeepsRecords.trans (h : KeepsRecords u v) (k : KeepsRecords v t) : KeepsRecords u t :=
  ⟨k.map.trans h.map, k.params.trans h.params, k.prot.trans h.prot⟩

/-- Outside the reading states no change but one to a forced state touches them (R60, R112). -/
theorem setTransport_keepsRecords {new : Transport} (d : Option RestDest) (hr : u.seq.transport.reading = false)
    (hf : new.isForced = false) : KeepsRecords u (u.setTransport new d) :=
  ⟨setTransport_keeps_map d (.inl hr), rfl, setTransport_keeps_prot d hf⟩

theorem endLocate_pushReturn_keepsRecords (o : LocateOutcome) (req : MotionReq) :
    KeepsRecords u ((u.endLocate o).pushReturn req) := by
  refine ⟨by simp, ?_, by simp⟩
  unfold State.pushReturn
  split <;> simp

theorem startUnthread_keepsRecords (hr : u.seq.transport.reading = false) :
    KeepsRecords u u.startUnthread ∧ u.startUnthread.arb.chase = u.arb.chase := by
  have enters : KeepsRecords u u.enterUnthreading :=
    (setTransport_keepsRecords (new := .unthreading) none hr rfl).trans
      ⟨dropPending_map _, dropPending_params _, dropPending_prot _⟩
  have entered : u.enterUnthreading.arb.chase = u.arb.chase := dropPending_chase _
  have halts := setTransport_keepsRecords (new := .halting) (some .unthreading) hr rfl
  unfold State.startUnthread
  split
  case h_4 => exact ⟨setTransport_keepsRecords _ hr rfl, rfl⟩
  case h_5 =>
    split
    · exact ⟨enters, entered⟩
    · exact ⟨halts, rfl⟩
  case h_6 => exact ⟨halts, rfl⟩
  all_goals exact ⟨enters, entered⟩

/-- The hand-over of a motion other than THREAD and CLEAR_FAULT. -/
theorem handOver_keepsRecords (how : StartKind) {h : Held} (hr : u.seq.transport.reading = false)
    (ht : ∀ a b, h.req ≠ .thread a b) (hc : h.req ≠ .clearFault) :
    KeepsRecords u (u.handOver how h) ∧ (u.handOver how h).arb.chase = u.arb.chase := by
  by_cases caught : h.req.kind.caught = true
  · have handed := handOver_handedOn (u := u) how caught
    exact ⟨⟨handed.map hr, congrArg _ handed.ports, handed.prot⟩, congrArg _ handed.arb⟩
  · unfold State.handOver
    split
    case h_1 => exact ⟨setTransport_keepsRecords _ hr rfl, rfl⟩
    case h_9 a b e => exact absurd e (ht a b)
    case h_10 => exact startUnthread_keepsRecords hr
    case h_11 e => exact absurd e hc
    all_goals
      next e => exact absurd (by rw [e]; rfl) caught

/-- No start makes a chase wait (R100). -/
theorem beginStart_waiting {how : StartKind} (h : (u.beginStart how).arb.chase = .waiting) : u.arb.chase = .waiting := by
  cases how with
  | fresh | replace | preempt => exact h
  | breakChase =>
    obtain ⟨arb, -⟩ := beginStart_break u
    rw [arb] at h
    by_contra hw
    simp only [Arbiter.afterChase, if_neg hw] at h
    split at h <;> cases h

/-- A start from a state that does not read, where a waiting chase is refused. -/
theorem start_keepsRecords (how : StartKind) {h : Held} (hr : u.seq.transport.reading = false)
    (ht : ∀ a b, h.req ≠ .thread a b) (hc : h.req ≠ .clearFault) (hw : u.holdsChaseOff) :
    KeepsRecords u (u.start how h) := by
  have begun : KeepsRecords u (u.begun how h) := ⟨begun_map .., begun_params .., begun_prot ..⟩
  obtain ⟨handed, chase⟩ := handOver_keepsRecords (u := u.begun how h) how (by rw [begun_seq]; exact hr) ht hc
  have noted : KeepsRecords u (((u.begun how h).handOver how h).noteStart h.req.kind) :=
    (begun.trans handed).trans ⟨by simp, by simp, by simp⟩
  rw [start_eq, examineChase_refused]
  · exact noted
  · rw [noted.params, noteStart_arb, chase, begun_arb]
    exact fun waiting => hw (beginStart_waiting waiting)

theorem tryStart_keepsRecords (how : StartKind) {h : Held} (hr : u.seq.transport.reading = false)
    (ht : ∀ a b, h.req ≠ .thread a b) (hc : h.req ≠ .clearFault) (hw : u.holdsChaseOff) :
    KeepsRecords u (u.tryStart how h).1 := by
  unfold State.tryStart
  split
  · exact .refl u
  · exact start_keepsRecords how hr ht hc hw

/-- A studio request in CHASE PARKED (R98). -/
theorem studioInChase_keepsRecords (h : Held) (hp : u.seq.transport = .chase .parked) :
    KeepsRecords u (u.studioInChase .parked h).1 := by
  have reading : u.seq.transport.reading = false := by rw [hp]; rfl
  unfold State.studioInChase
  split
  case h_1 ratio => exact ⟨by simp [State.chaseSpeed], by simp [State.chaseSpeed], by simp [State.chaseSpeed]⟩
  case h_2 =>
    have ended : KeepsRecords u (u.endLocate .replaced) := ⟨by simp, by simp, by simp⟩
    unfold State.chasePlay
    dsimp only
    split
    · exact .refl u
    · exact ended.trans (setTransport_keepsRecords none (by simpa using reading) rfl)
  case h_4 | h_5 | h_6 | h_7 =>
    rw [if_neg (by simp)]
    unfold State.chaseLocate
    split
    · exact .refl u
    · have handed := startLocate_handedOn (u := (u.endLocate .replaced).pushReturn h.req) true h.target
      exact (endLocate_pushReturn_keepsRecords .replaced h.req).trans
        ⟨handed.map (by simpa using reading), congrArg _ handed.ports, handed.prot⟩
  all_goals exact .refl u

/-- A request that passes its tests in STOPPED or in CHASE is no THREAD and no CLEAR_FAULT (R64). -/
theorem admission_at_rest {h : Held} (ht : u.seq.transport = .stopped ∨ u.seq.transport = .chase .parked)
    (ha : u.admission h = none) : (∀ a b, h.req ≠ .thread a b) ∧ h.req ≠ .clearFault := by
  have valid : h.req.validIn u.seq.transport = true := by
    unfold State.admission at ha
    split at ha
    · cases ha
    · next hv => exact (by simpa using hv : _ ∧ _).1
  constructor
  · rintro a b e
    rcases ht with ht | ht <;> simp [e, ht, MotionReq.validIn] at valid
  · rintro e
    rcases ht with ht | ht <;> simp [e, ht, MotionReq.validIn] at valid

/-- The judging of a request in STOPPED or in CHASE PARKED, where a waiting chase is refused. -/
theorem judgeHeld_keepsRecords (h : Held) (ht : u.seq.transport = .stopped ∨ u.seq.transport = .chase .parked)
    (hw : u.holdsChaseOff) :
    KeepsRecords u (u.judgeHeld h).1 := by
  have reading : u.seq.transport.reading = false := by rcases ht with ht | ht <;> rw [ht] <;> rfl
  unfold State.judgeHeld
  split
  · exact .refl u
  · next passes =>
    obtain ⟨thread, clear⟩ := admission_at_rest ht passes
    have starts (how : StartKind) := tryStart_keepsRecords how reading thread clear hw
    rcases ht with ht | ht
    · simp only [State.judge, ht]
      split
      · exact .refl u
      · exact starts .fresh
    · simp only [State.judge, ht]
      split
      · exact studioInChase_keepsRecords h ht
      · unfold State.panelInChase
        split
        · exact starts .breakChase
        · exact ⟨by simp [State.hold], by simp [State.hold], by simp [State.hold]⟩

theorem judgeSlot_keepsRecords (ht : u.seq.transport = .stopped ∨ u.seq.transport = .chase .parked)
    (hw : u.holdsChaseOff) :
    KeepsRecords u u.judgeSlot := by
  unfold State.judgeSlot
  split
  · exact .refl u
  · next h _ =>
    have emptied : KeepsRecords u (u.setSlot none) := ⟨rfl, rfl, rfl⟩
    have judged := emptied.trans (judgeHeld_keepsRecords h ht hw)
    dsimp only
    split
    · exact judged
    · exact judged.trans ⟨raiseOn_map .., raiseOn_params .., raiseOn_prot ..⟩

end KeepsRecords

/-! ### The state in which the chase is examined and the slot judged -/

/-- STOPPED with no motion active, before the examination. -/
def State.atRest (s : State) : State := (s.setTransport .stopped none).setActive none

/-- An entry to STOPPED that ends no release (R70, R92). -/
theorem enterStopped_eq {s : State} (h : s.arb.chase ≠ .releasing) : s.enterStopped = s.atRest.examineChase.judgeSlot := by
  have same : s.atRest.setChase s.atRest.arb.afterRelease = s.atRest := by
    have kept : s.atRest.arb.afterRelease = s.atRest.arb.chase := if_neg h
    rw [kept]
    rfl
  show (s.atRest.setChase s.atRest.arb.afterRelease).examineChase.judgeSlot = _
  rw [same]

/-- A waiting chase in STOPPED is granted into PARKED when its level passes the lockout (R83, R95, R96). -/
theorem examineChase_parks {u : State} (ht : u.seq.transport = .stopped) (ha : u.arb.active = none)
    (hl : u.locate.active = none) (hw : u.arb.chase = .waiting)
    (hle : paramOf u.ports.params Param.lockoutLevel ≤ paramOf u.ports.params Param.chaseLevel) :
    u.examineChase = u.enterChase .parked (paramOf u.ports.params Param.chaseLevel) := by
  have grantable : u.chaseGrantable = true := by simp [State.chaseGrantable, State.param, hw, ht, hle]
  have other : u.otherSource = false := by rw [State.otherSource, ha]
  simp [State.examineChase, grantable, State.grantChase, other, State.raiseIf, State.endLocate, hl, ht, State.param]

/-- The grant in STOPPED (R62, R96). -/
theorem enterChase_parked {u : State} (l : Int) (ht : u.seq.transport = .stopped) :
    (u.enterChase .parked l).seq.transport = .chase .parked ∧ (u.enterChase .parked l).seq.outputs.grant = true
      ∧ (u.enterChase .parked l).speed.chaseRatio = 4096 ∧ (u.enterChase .parked l).ports = u.ports
      ∧ (u.enterChase .parked l).arb
        = { u.arb with chase := .granted, active := some { kind := .chase, source := .chase, level := l } }
      ∧ KeepsRecords u (u.enterChase .parked l) := by
  have map := setTransport_keeps_map (s := u) (new := .chase .parked) none (.inl (by rw [ht]; rfl))
  unfold State.enterChase
  rw [noteStart_seq, noteStart_speed, noteStart_ports, noteStart_arb]
  exact ⟨rfl, rfl, rfl, rfl, rfl, by rw [noteStart_map]; exact map, by rw [noteStart_ports]; rfl,
    by rw [noteStart_prot]; exact setTransport_keeps_prot none rfl⟩

/-! ### The held request judged (R92, R93) -/

section Judged

variable {u : State} {h : Held}

theorem judgeSlot_empty (hs : u.arb.slot = none) : u.judgeSlot = u := by
  unfold State.judgeSlot
  rw [hs]

/-- A held request that fails a test is dropped (R92, R93). -/
theorem judgeSlot_drops {st : Status} (hs : u.arb.slot = some h) (ha : (u.setSlot none).admission h = some st)
    (hr : st.accepted = false) : u.judgeSlot = (u.setSlot none).raiseOn h.port .pendingDropped := by
  simp [State.judgeSlot, hs, State.judgeHeld, ha, hr]

theorem pendingDropped_has (v : State) (p : Port) :
    ((v.raiseOn p .pendingDropped).ports.port p).has .pendingDropped = true := by
  simp [raiseOn_has]

/-- Below the lockout level a request is refused, a STOP or an UNTHREAD from the panel aside (R83). -/
theorem admission_lockout (hl : u.portLevel h.port < paramOf u.ports.params Param.lockoutLevel)
    (hx : ¬(h.port = .panel ∧ (h.req = .stop ∨ h.req = .unthread))) :
    ∃ st, u.admission h = some st ∧ st.accepted = false := by
  have locked : u.lockedOut h = true := by
    simp only [State.lockedOut, State.param, Bool.and_eq_true]
    exact ⟨decide_eq_true hl, by simpa [imp_iff_not_or] using hx⟩
  unfold State.admission
  split
  · exact ⟨.badState, rfl, rfl⟩
  · exact ⟨.lockedOut, rfl, rfl⟩

/-- In STOPPED a held motion that passes its tests starts (R86, R92). -/
theorem judgeSlot_starts (ht : u.seq.transport = .stopped) (hs : u.arb.slot = some h)
    (hl : paramOf u.ports.params Param.lockoutLevel ≤ u.portLevel h.port) (hv : h.req.validIn .stopped = true)
    (hstop : h.req ≠ .stop) (hcheck : (u.setSlot none).startCheck h = none) :
    u.judgeSlot = (u.setSlot none).start .fresh h := by
  have passes : (u.setSlot none).admission h = none :=
    admission_passes (by rw [setSlot_seq, ht]; exact hv) (by rw [setSlot_seq, ht]; rfl) hl
  simp [State.judgeSlot, hs, State.judgeHeld, passes, State.judge, ht, hstop, tryStart_of_check hcheck, Status.accepted]

/-- A held RETURN starts a locate to its popped entry (R104, R154). -/
theorem startLocate_return (v : State) (e : ReturnEntry) :
    (v.startLocate false (.returnTo e)).seq.transport.locatePhase.isSome = true
      ∧ (v.startLocate false (.returnTo e)).seq.transport.isChase = false
      ∧ ∃ r, (v.startLocate false (.returnTo e)).locate.active = some r ∧ r.target = .returnTo e ∧ r.aim = e.length := by
  have record : v.freshRecord (.returnTo e) = _ := freshRecord_of_aim rfl
  unfold State.startLocate State.choosePhase
  split
  · exact ⟨rfl, rfl, _, rfl, congrArg LocateRecord.target record, congrArg LocateRecord.aim record⟩
  · exact ⟨rfl, rfl, _, rfl, congrArg LocateRecord.target record, congrArg LocateRecord.aim record⟩

/-- A panel request held over the grant, not above its level, returns to the slot (R100). -/
theorem judgeSlot_holds (ht : u.seq.transport = .chase .parked) (hs : u.arb.slot = some h) (hp : h.port = .panel)
    (ha : (u.setSlot none).admission h = none) (hl : u.portLevel .panel ≤ u.recordLevel) :
    u.judgeSlot = u := by
  have held : (u.setSlot none).hold h = (u, .pending) := by
    have dropped : (u.setSlot none).dropPending = u.setSlot none := rfl
    have same : (u.setSlot none).setSlot u.arb.slot = u := rfl
    rw [State.hold, dropped, ← hs, same]
  have room : ¬(u.setSlot none).recordLevel < (u.setSlot none).portLevel .panel := not_lt.mpr hl
  simp [State.judgeSlot, hs, State.judgeHeld, ha, State.judge, ht, hp, State.panelInChase, room, held, Status.accepted]

/-- A studio WIND has no meaning in CHASE (R98). -/
theorem chase_refuses_studio {v : Int} (ht : u.seq.transport = .chase .parked) (hp : h.port = .studio)
    (hv : h.req = .wind v) : (u.setSlot none).admission h = some .badState := by
  simp [State.admission, Held.chaseRefuses, ht, hp, hv]

/-- A panel WIND passes its tests in CHASE when its level passes the lockout (R64, R83, R98). -/
theorem chase_admits_panel {v : Int} (ht : u.seq.transport = .chase .parked) (hp : h.port = .panel) (hv : h.req = .wind v)
    (hl : paramOf u.ports.params Param.lockoutLevel ≤ u.portLevel .panel) : (u.setSlot none).admission h = none := by
  have unlocked : ¬(u.setSlot none).portLevel .panel < (u.setSlot none).param Param.lockoutLevel := not_lt.mpr hl
  simp [State.admission, MotionReq.validIn, Held.chaseRefuses, State.lockedOut, ht, hp, hv, unlocked]

/-- One above its level breaks the chase (R100). -/
theorem judgeSlot_breaks (ht : u.seq.transport = .chase .parked) (hs : u.arb.slot = some h) (hp : h.port = .panel)
    (ha : (u.setSlot none).admission h = none) (hl : u.recordLevel < u.portLevel .panel)
    (hcheck : (u.setSlot none).startCheck h = none) :
    u.judgeSlot = (u.setSlot none).start .breakChase h := by
  have room : (u.setSlot none).recordLevel < (u.setSlot none).portLevel .panel := hl
  simp [State.judgeSlot, hs, State.judgeHeld, ha, State.judge, ht, hp, State.panelInChase, room,
    tryStart_of_check hcheck, Status.accepted]

/-- What the start of a held motion that pushes no return entry leaves, over a waiting chase that is refused: the new record
alone (R84, R89). -/
theorem start_beside {how : StartKind} (hc : h.req.kind.caught = true) (hp : h.req.pushesReturn = false)
    (hw : (u.beginStart how).arb.chase = .waiting →
      paramOf u.ports.params Param.chaseLevel < paramOf u.ports.params Param.lockoutLevel) :
    (u.start how h).ports = (u.beginStart how).ports
      ∧ (u.start how h).arb = { (u.beginStart how).arb with
          active := some { kind := h.req.kind, source := h.port.source, level := u.portLevel h.port } } := by
  have handed := start_handedOn hc hw
  rw [begun_eq_recorded u how h hp] at handed
  exact ⟨handed.ports.trans (recorded_ports ..), handed.arb.trans (recorded_arb ..)⟩

/-- The hand-over's transport and requested speed stand after the start. -/
theorem start_keeps_handOver {how : StartKind} (hc : h.req.kind.caught = true)
    (hw : (u.beginStart how).arb.chase = .waiting →
      paramOf u.ports.params Param.chaseLevel < paramOf u.ports.params Param.lockoutLevel) :
    (u.start how h).seq = ((u.begun how h).handOver how h).seq
      ∧ (u.start how h).speed = ((u.begun how h).handOver how h).speed
      ∧ (u.start how h).locate = ((u.begun how h).handOver how h).locate := by
  rw [start_driving hc hw]
  exact ⟨rfl, rfl, rfl⟩

/-- PLAY starts from STOPPED in BRAKING, WIND and SHUTTLE in their states (R71, R73). -/
theorem handOver_from_rest {v : State} (ht : v.seq.transport = .stopped) {k : MotionKind} {tr : Transport}
    (hk : (h.req = .play ∧ k = .play ∧ tr = .play .braking) ∨ (∃ x, h.req = .wind x ∧ k = .wind ∧ tr = .wind)
      ∨ (∃ x, h.req = .shuttle x ∧ k = .shuttle ∧ tr = .shuttle)) :
    (v.handOver .fresh h).seq.transport = tr ∧ h.req.kind = k ∧ k.caught = true ∧ h.req.pushesReturn = false
      ∧ h.req.validIn .stopped = true ∧ h.req ≠ .stop ∧ ∀ w : State, w.startCheck h = none := by
  rcases hk with ⟨e, rfl, rfl⟩ | ⟨x, e, rfl, rfl⟩ | ⟨x, e, rfl, rfl⟩
  · have braking : v.startPlay .fresh = v.setTransport (.play .braking) none := by
      rw [startPlay_eq (.inl (by simp)), ht]
      rfl
    rw [State.handOver, e]
    exact ⟨by rw [braking]; rfl, rfl, rfl, rfl, rfl, nofun, fun w => by rw [State.startCheck, e]⟩
  all_goals
    rw [State.handOver, e]
    exact ⟨rfl, rfl, rfl, rfl, rfl, nofun, fun w => by rw [State.startCheck, e]⟩

end Judged

/-! ### The outcomes -/

section Outcomes

variable {u : State} {h : Held}

/-- A held PLAY, WIND or SHUTTLE carried out from STOPPED (R71, R73, R92). -/
theorem judgeSlot_motion {k : MotionKind} {tr : Transport} (ht : u.seq.transport = .stopped) (hs : u.arb.slot = some h)
    (hl : paramOf u.ports.params Param.lockoutLevel ≤ u.portLevel h.port) (hw : u.holdsChaseOff)
    (hk : (h.req = .play ∧ k = .play ∧ tr = .play .braking) ∨ (∃ x, h.req = .wind x ∧ k = .wind ∧ tr = .wind)
      ∨ (∃ x, h.req = .shuttle x ∧ k = .shuttle ∧ tr = .shuttle)) :
    u.judgeSlot.seq.transport = tr ∧ u.judgeSlot.ports = u.ports
      ∧ u.judgeSlot.arb = { u.arb with
          slot := none
          active := some { kind := k, source := h.port.source, level := u.portLevel h.port } } := by
  have begun : ((u.setSlot none).begun .fresh h).seq.transport = .stopped := by rw [begun_seq]; exact ht
  obtain ⟨state, rfl, caught, push, valid, stop, check⟩ := handOver_from_rest begun hk
  obtain ⟨ports, arb⟩ := start_beside (u := u.setSlot none) (how := .fresh) caught push hw
  obtain ⟨seq, -, -⟩ := start_keeps_handOver (u := u.setSlot none) (how := .fresh) caught hw
  rw [judgeSlot_starts ht hs hl valid stop (check _)]
  exact ⟨by rw [seq]; exact state, ports, arb⟩

/-- A held WIND or SHUTTLE runs with the requested speed (R47, R73). -/
theorem judgeSlot_requested {v : Int} (ht : u.seq.transport = .stopped) (hs : u.arb.slot = some h)
    (hl : paramOf u.ports.params Param.lockoutLevel ≤ u.portLevel h.port) (hw : u.holdsChaseOff)
    (hv : h.req = .wind v ∨ h.req = .shuttle v) : u.judgeSlot.speed.requested = v := by
  rcases hv with e | e
  all_goals
    obtain ⟨-, speed, -⟩ := start_keeps_handOver (u := u.setSlot none) (h := h) (how := .fresh) (by rw [e]; rfl) hw
    rw [judgeSlot_starts ht hs hl (by rw [e]; rfl) (by simp [e]) (by rw [State.startCheck, e]), speed, State.handOver, e]
    rfl

/-- A held RETURN carried out from STOPPED (R92, R104). -/
theorem judgeSlot_return {e : ReturnEntry} (ht : u.seq.transport = .stopped) (hs : u.arb.slot = some h)
    (hl : paramOf u.ports.params Param.lockoutLevel ≤ u.portLevel h.port) (hw : u.holdsChaseOff)
    (hr : h.req = .returnBack) (he : h.entry = some e) :
    u.judgeSlot.seq.transport.locatePhase.isSome = true ∧ u.judgeSlot.seq.transport.isChase = false
      ∧ u.judgeSlot.ports = u.ports
      ∧ u.judgeSlot.arb = { u.arb with
          slot := none
          active := some { kind := .locate, source := h.port.source, level := u.portLevel h.port } }
      ∧ ∃ r, u.judgeSlot.locate.active = some r ∧ r.target = .returnTo e ∧ r.aim = e.length := by
  have kind : h.req.kind = .locate := by rw [hr]; rfl
  have caught : h.req.kind.caught = true := by rw [kind]; rfl
  obtain ⟨ports, arb⟩ := start_beside (u := u.setSlot none) (how := .fresh) caught (by rw [hr]; rfl) hw
  obtain ⟨seq, -, locate⟩ := start_keeps_handOver (u := u.setSlot none) (how := .fresh) caught hw
  have target : h.target = .returnTo e := by rw [Held.target, hr, he]; rfl
  have handed : ((u.setSlot none).begun .fresh h).handOver .fresh h
      = ((u.setSlot none).begun .fresh h).startLocate false (.returnTo e) := by
    rw [← target, State.handOver, hr]
  rw [kind] at arb
  rw [judgeSlot_starts ht hs hl (by rw [hr]; rfl) (by simp [hr]) (by rw [State.startCheck, hr]), seq, locate, handed]
  obtain ⟨phase, outside, record⟩ := startLocate_return ((u.setSlot none).begun .fresh h) e
  exact ⟨phase, outside, ports, arb, record⟩

/-- A panel WIND above the chase level breaks the chase just granted (R100). -/
theorem judgeSlot_wind_breaks {v : Int} (ht : u.seq.transport = .chase .parked) (hs : u.arb.slot = some h)
    (hg : u.arb.chase = .granted) (hp : h.port = .panel) (hv : h.req = .wind v)
    (hl : paramOf u.ports.params Param.lockoutLevel ≤ u.portLevel .panel) (hr : u.recordLevel < u.portLevel .panel) :
    u.judgeSlot.seq.transport = .wind ∧ u.judgeSlot.speed.requested = v
      ∧ (∀ p, (u.judgeSlot.ports.port p).has .chaseBroken = true)
      ∧ u.judgeSlot.arb = { u.arb with
          slot := none
          chase := if u.arb.chaseLine then .spent else .idle
          active := some { kind := .wind, source := .panel, level := u.portLevel .panel } } := by
  obtain ⟨after, broken⟩ := beginStart_break (u.setSlot none)
  have protocol : (u.setSlot none).arb.afterChase = if u.arb.chaseLine then .spent else .idle :=
    if_neg (by simp [hg])
  rw [protocol] at after
  have caught : h.req.kind.caught = true := by rw [hv]; rfl
  have refused : ((u.setSlot none).beginStart .breakChase).arb.chase = .waiting →
      paramOf u.ports.params Param.chaseLevel < paramOf u.ports.params Param.lockoutLevel := fun hw => by
    simpa [hg] using beginStart_waiting hw
  obtain ⟨ports, arb⟩ := start_beside (u := u.setSlot none) caught (by rw [hv]; rfl) refused
  obtain ⟨seq, speed, -⟩ := start_keeps_handOver (u := u.setSlot none) caught refused
  rw [after, hp, hv] at arb
  rw [judgeSlot_breaks ht hs hp (chase_admits_panel ht hp hv hl) hr (by rw [State.startCheck, hv]), seq, speed, ports,
    State.handOver, hv]
  exact ⟨rfl, rfl, broken, arb⟩

end Outcomes

/-! ### The two entries -/

/-- CHASE PARKED, as a chase granted in STOPPED enters it. -/
def State.parkedAtRest (s : State) : State := s.atRest.enterChase .parked (paramOf s.ports.params Param.chaseLevel)

section Entries

variable {s : State}

/-- The grant over the rest (R62, R96). -/
theorem parkedAtRest_spec : s.parkedAtRest.seq.transport = .chase .parked ∧ s.parkedAtRest.seq.outputs.grant = true
    ∧ s.parkedAtRest.speed.chaseRatio = 4096 ∧ KeepsRecords s.atRest s.parkedAtRest := by
  obtain ⟨parked, grant, ratio, -, -, kept⟩ :=
    enterChase_parked (u := s.atRest) (paramOf s.ports.params Param.chaseLevel) rfl
  exact ⟨parked, grant, ratio, kept⟩

theorem parkedAtRest_arb : s.parkedAtRest.arb = { s.arb with
    chase := .granted
    active := some { kind := .chase, source := .chase, level := paramOf s.ports.params Param.chaseLevel } } := by
  obtain ⟨-, -, -, -, arb, -⟩ := enterChase_parked (u := s.atRest) (paramOf s.ports.params Param.chaseLevel) rfl
  exact arb

theorem parkedAtRest_ports : s.parkedAtRest.ports = s.ports := by
  obtain ⟨-, -, -, ports, -, -⟩ := enterChase_parked (u := s.atRest) (paramOf s.ports.params Param.chaseLevel) rfl
  exact ports

/-- The record of the grant has the chase level (R96). -/
theorem parkedAtRest_recordLevel : s.parkedAtRest.recordLevel = paramOf s.ports.params Param.chaseLevel := by
  rw [State.recordLevel, parkedAtRest_arb]

theorem parkedAtRest_panelLevel : s.parkedAtRest.portLevel .panel = s.portLevel .panel := by
  rw [State.portLevel, State.param, parkedAtRest_ports]
  rfl

/-- With no chase granted the slot is judged in STOPPED (R92). -/
theorem enterStopped_refuses (h : s.arb.chase ≠ .releasing) (hw : s.holdsChaseOff) :
    s.enterStopped = s.atRest.judgeSlot := by
  rw [enterStopped_eq h, examineChase_refused]
  exact hw

/-- With the chase granted it is judged in CHASE PARKED (R92, R96). -/
theorem enterStopped_grants (hl : s.locate.active = none) (hw : s.arb.chase = .waiting)
    (hle : paramOf s.ports.params Param.lockoutLevel ≤ paramOf s.ports.params Param.chaseLevel) :
    s.enterStopped = s.parkedAtRest.judgeSlot := by
  rw [enterStopped_eq (by simp [hw]), examineChase_parks (u := s.atRest) rfl rfl hl hw hle]
  rfl

/-- Whatever is granted or carried out there. -/
theorem enterStopped_keepsRecords (hr : s.seq.transport.reading = false) (h : s.arb.chase ≠ .releasing)
    (hl : s.locate.active = none) : KeepsRecords s s.enterStopped := by
  have rested : KeepsRecords s s.atRest := (setTransport_keepsRecords none hr rfl).trans ⟨rfl, rfl, rfl⟩
  by_cases hw : s.holdsChaseOff
  · rw [enterStopped_refuses h hw]
    exact rested.trans (judgeSlot_keepsRecords (.inl rfl) hw)
  · obtain ⟨waiting, passes⟩ := Classical.not_imp.mp hw
    obtain ⟨parked, -, -, granted⟩ := parkedAtRest_spec (s := s)
    have off : s.parkedAtRest.holdsChaseOff := fun again => by
      rw [parkedAtRest_arb] at again
      cases again
    rw [enterStopped_grants hl waiting (not_lt.mp passes)]
    exact (rested.trans granted).trans (judgeSlot_keepsRecords (.inr parked) off)

end Entries

/-- Settles O49: the examination leaves STOPPED or grants CHASE PARKED, and the slot is judged where it leaves the
transport. -/
theorem stoppedEntryGrantsThenJudges : Obligations.StoppedEntryGrantsThenJudges := by
  intro s timer settling released unlocated caught
  have run : exec .settleTimerExpiry s = .next s.enterStopped := by
    simp [exec, execSettleTimerExpiry, takeCatches_of_not_mem caught, timer]
  have point := enterStopped_pointFrame (s := s) (by rw [settling]; rfl) (by simp [settling])
  have kept := enterStopped_keepsRecords (by rw [settling]; rfl) released unlocated
  obtain ⟨parked, grant, ratio, -⟩ := parkedAtRest_spec (s := s)
  refine ⟨_, run, point.head, point.marks, kept.map, kept.params, kept.prot, fun empty waiting => ⟨?_, ?_⟩,
    fun h held => ⟨fun hor => ?_, fun waiting passes v wind => ?_⟩⟩
  · intro passes
    rw [enterStopped_grants unlocated waiting passes, judgeSlot_empty (by rw [parkedAtRest_arb]; exact empty)]
    exact ⟨parked, grant, ratio, parkedAtRest_ports, parkedAtRest_arb⟩
  · intro refused
    rw [enterStopped_refuses released fun _ => refused, judgeSlot_empty (u := s.atRest) empty]
    exact ⟨rfl, rfl, rfl⟩
  · have off : s.atRest.holdsChaseOff := fun waiting => hor.resolve_left (not_not.mpr waiting)
    rw [enterStopped_refuses released off]
    refine ⟨fun below other => ?_, fun above => ⟨fun k tr motion => judgeSlot_motion rfl held above off motion,
      fun v requested => judgeSlot_requested rfl held above off requested,
      fun e back entry => judgeSlot_return rfl held above off back entry⟩⟩
    obtain ⟨st, refused, unaccepted⟩ := admission_lockout (u := s.atRest.setSlot none) below other
    rw [judgeSlot_drops (u := s.atRest) held refused unaccepted]
    exact ⟨rfl, rfl, pendingDropped_has ..⟩
  · have slot : s.parkedAtRest.arb.slot = some h := by rw [parkedAtRest_arb]; exact held
    have protocol : s.parkedAtRest.arb.chase = .granted := by rw [parkedAtRest_arb]
    rw [enterStopped_grants unlocated waiting passes]
    refine ⟨fun panel above => ?_, fun studio => ?_⟩
    · rw [← parkedAtRest_ports (s := s), ← parkedAtRest_panelLevel] at above
      have admits := chase_admits_panel parked panel wind above
      rw [← parkedAtRest_recordLevel, ← parkedAtRest_panelLevel]
      refine ⟨fun low => ?_, fun high => ?_⟩
      · rw [judgeSlot_holds parked slot panel admits low]
        exact ⟨parked, protocol, slot, parkedAtRest_ports⟩
      · obtain ⟨state, requested, broken, arb⟩ := judgeSlot_wind_breaks parked slot protocol panel wind above high
        rw [parkedAtRest_arb] at arb
        exact ⟨state, requested, broken, arb⟩
    · rw [judgeSlot_drops slot (chase_refuses_studio parked studio wind) rfl]
      exact ⟨parked, protocol, rfl, studio ▸ pendingDropped_has _ h.port⟩

end Sys2Proof.Machine

/-! # The motion requests and arbitration family

The pending slot of SETTLING first, then the return list, the chase granted at a rise of its line or after a level is set, the
judging of requests against a motion or a chase, and the chase released or driven by the studio. -/

namespace Sys2Proof.Machine

/-! ## Tests passed, and the pending slot (R83, R85, R91, R93) -/

/-- Outside CHASE a request that passes its tests is judged in the state that stands (R85). -/
theorem motion_judged {s : State} {port : Port} {req : MotionReq} (hv : req.validIn s.seq.transport = true)
    (hc : s.seq.transport.isChase = false) (hl : paramOf s.ports.params Param.lockoutLevel ≤ s.portLevel port)
    (ho : s.operandTest req = none) (hr : req ≠ .returnBack) : s.motion port req = s.judge (freshHeld port req) :=
  motion_eq_judge ho (admission_passes hv hc hl) hr

theorem operandTest_locateLength {s : State} {l : Int} (lo : -8388608 ≤ l) (hi : l ≤ 8388607) :
    s.operandTest (.locateLength l) = none := by
  simp [State.operandTest, headMin, headMax, lo, hi]

theorem dropPending_of_none {s : State} (h : s.arb.slot = none) : s.dropPending = s := by
  simp [State.dropPending, h]

theorem dropPending_of_some {s : State} {h : Held} (hs : s.arb.slot = some h) :
    s.dropPending = (s.setSlot none).raiseOn h.port .pendingDropped := by
  simp [State.dropPending, hs]

/-- The request dropped raises PENDING_DROPPED on its own port (R93). -/
theorem dropPending_drops {s : State} {h : Held} (hs : s.arb.slot = some h) :
    (s.dropPending.ports.port h.port).has .pendingDropped = true := by
  rw [dropPending_of_some hs]
  exact pendingDropped_has ..

/-- Emptying the slot touches the slot and the flags alone. -/
theorem dropPending_eq (s : State) :
    s.dropPending = { s with arb := { s.arb with slot := none }, ports := s.dropPending.ports } := by
  cases hs : s.arb.slot with
  | none =>
    have empty : { s.arb with slot := none } = s.arb := by rw [← hs]
    rw [empty, dropPending_of_none hs]
  | some h => rw [dropPending_of_some hs]; rfl

/-- Holding a request touches the slot and the flags alone (R91). -/
theorem hold_eq (s : State) (h : Held) :
    s.hold h = ({ s with arb := { s.arb with slot := some h }, ports := s.dropPending.ports }, .pending) := by
  rw [State.hold, dropPending_eq s]
  rfl

/-- Settles O59: SETTLING judges a STOP to an emptied slot, and every other driving motion to the slot. -/
theorem settlingHoldsNewestRequest : Obligations.SettlingHoldsNewestRequest := by
  intro port req s settling above ports hports
  have dropped : s.dropPending.ports = ports := by
    rw [hports]
    cases hs : s.arb.slot with
    | none => rw [dropPending_of_none hs]
    | some h => obtain ⟨_, port, _⟩ := h; cases port <;> rw [dropPending_of_some hs] <;> rfl
  have judged {r : MotionReq} (ho : s.operandTest r = none) (hv : r.validIn .settling = true) (hr : r ≠ .returnBack) :
      s.motion port r = s.judge (freshHeld port r) :=
    motion_judged (by rw [settling]; exact hv) (by rw [settling]; rfl) above ho hr
  have waits {r : MotionReq} (hs : r ≠ .stop) (hu : r ≠ .unthread) :
      s.judge (freshHeld port r)
        = ({ s with arb := { s.arb with slot := some ⟨r, port, none⟩ }, ports := ports }, .pending) := by
    simp [State.judge, settling, freshHeld, hs, hu, hold_eq, dropped]
  refine ⟨?_, ?_⟩
  · rintro (rfl | ⟨v, rfl⟩ | ⟨v, rfl⟩ | ⟨l, rfl, lo, hi⟩)
    · rw [judged rfl rfl (by simp), waits (by simp) (by simp)]
    · rw [judged rfl rfl (by simp), waits (by simp) (by simp)]
    · rw [judged rfl rfl (by simp), waits (by simp) (by simp)]
    · rw [judged (operandTest_locateLength lo hi) rfl (by simp), waits (by simp) (by simp)]
  · have emptied : s.judge (freshHeld port .stop) = (s.dropPending, .ok) := by simp [State.judge, settling, freshHeld]
    rw [judged rfl rfl (by simp), emptied, dropPending_eq s, dropped]

/-! ## The return list (R103, R104) -/

/-- A locate by request from a state that pushes puts the head's place in front, and keeps 16 entries (R103). -/
theorem pushReturn_pushes {s : State} {req : MotionReq} (hr : req.pushesReturn = true)
    (ht : s.seq.transport.pushesReturn = true) :
    (s.pushReturn req).arb.returns = s.returnEntry :: s.arb.returns.take 15
      ∧ (16 ≤ s.arb.returns.length → ∀ p, ((s.pushReturn req).ports.port p).has .returnWrapped = true)
      ∧ (s.arb.returns.length < 16 → (s.pushReturn req).ports = s.ports) := by
  have pushed : s.pushReturn req = (s.setReturns (s.returnEntry :: s.arb.returns.take 15)).raiseIf
      (decide (16 ≤ s.arb.returns.length)) .returnWrapped := by
    rw [State.pushReturn, hr, ht]
    rfl
  rw [pushed]
  refine ⟨by simp, fun full p => by simp [raiseIf_has, full], fun room => ?_⟩
  rw [decide_eq_false (not_le.mpr room)]
  rfl

/-- The start of a locate records its target as it stands (R154, R156). -/
theorem startLocate_record (u : State) (inChase : Bool) (target : LocateTarget) :
    (u.startLocate inChase target).locate.active = some (u.freshRecord target) := by
  have newest : { u.freshRecord target with newest := none } = u.freshRecord target := by
    rw [← freshRecord_newest u target]
  unfold State.startLocate State.choosePhase
  split
  · exact congrArg some newest
  · rfl

/-- A locate that does not end by reading travels to its stopping point (R159). -/
theorem startLocate_travels (u : State) (inChase : Bool) {target : LocateTarget} (hv : target.verifying = false) :
    (u.startLocate inChase target).seq.transport = locateTransport inChase .travel
      ∧ (u.startLocate inChase target).speed.stopPoint = some (u.freshRecord target).stopPoint := by
  have kept : (u.freshRecord target).target.verifying = false := by
    rw [← hv]
    exact congrArg _ (recompute_keeps u _).1
  have travels : u.startLocate inChase target
      = ((u.setTransport (locateTransport inChase .travel) none).setLocate (u.freshRecord target)).headToward true
        (u.freshRecord target).stopPoint := by
    show u.choosePhase inChase .travel (u.freshRecord target) = _
    rw [State.choosePhase, kept]
    rfl
  rw [travels]
  exact ⟨rfl, rfl⟩

/-- A RETURN with its popped entry (R104). -/
abbrev returnHeld (port : Port) (e : ReturnEntry) : Held := { req := .returnBack, port := port, entry := some e }

/-- A RETURN whose list holds an entry is judged with it popped (R85, R104). -/
theorem motion_return {s : State} {port : Port} {e : ReturnEntry} {rest : List ReturnEntry}
    (hv : MotionReq.validIn .returnBack s.seq.transport = true) (hc : s.seq.transport.isChase = false)
    (hl : paramOf s.ports.params Param.lockoutLevel ≤ s.portLevel port) (hr : s.arb.returns = e :: rest) :
    s.motion port .returnBack = (s.setReturns rest).judge (returnHeld port e) := by
  have admitted : s.admission { req := .returnBack, port := port, entry := none } = none := admission_passes hv hc hl
  simp [State.motion, State.operandTest, State.motionFromStateTest, admitted, State.popReturn, hr]

theorem motion_return_empty {s : State} {port : Port} (hv : MotionReq.validIn .returnBack s.seq.transport = true)
    (hc : s.seq.transport.isChase = false) (hl : paramOf s.ports.params Param.lockoutLevel ≤ s.portLevel port)
    (hr : s.arb.returns = []) : s.motion port .returnBack = (s, .empty) := by
  have admitted : s.admission { req := .returnBack, port := port, entry := none } = none := admission_passes hv hc hl
  simp [State.motion, State.operandTest, State.motionFromStateTest, admitted, State.popReturn, hr]

/-- The push of a locate by request that starts fresh (R103). -/
theorem begun_pushes {s : State} {h : Held} (hr : h.req.pushesReturn = true)
    (ht : s.seq.transport.pushesReturn = true) :
    (s.begun .fresh h).arb.returns = s.returnEntry :: s.arb.returns.take 15
      ∧ (16 ≤ s.arb.returns.length → ∀ p, ((s.begun .fresh h).ports.port p).has .returnWrapped = true)
      ∧ (s.arb.returns.length < 16 → (s.begun .fresh h).ports = s.ports) := by
  have pushes := pushReturn_pushes (s := s.endLocate .replaced) hr (by rw [endLocate_seq]; exact ht)
  have place : (s.endLocate .replaced).returnEntry = s.returnEntry := by simp [State.returnEntry, State.headNow]
  rw [place, endLocate_arb, endLocate_ports] at pushes
  exact pushes

/-- A locate that does not end by reading, started over no waiting chase that may be granted (R89, R103, R156, R159). -/
theorem start_locateLength {s : State} {port : Port} {how : StartKind} (l : Int)
    (hw : (s.beginStart how).arb.chase = .waiting →
      paramOf s.ports.params Param.chaseLevel < paramOf s.ports.params Param.lockoutLevel) :
    (s.start how (freshHeld port (.locateLength l))).seq.transport = .locate .travel
      ∧ ∃ r, (s.start how (freshHeld port (.locateLength l))).locate.active = some r ∧ r.target = .length l
        ∧ r.retries = 0 ∧ r.stopPoint = clampTo (-8388608) 8388607 (l + -paramOf s.ports.params Param.parkOffset)
        ∧ (s.start how (freshHeld port (.locateLength l))).speed.stopPoint = some r.stopPoint := by
  obtain ⟨seq, speed, locate⟩ := start_keeps_handOver (h := freshHeld port (.locateLength l)) rfl hw
  obtain ⟨travel, point⟩ :=
    startLocate_travels (s.begun how (freshHeld port (.locateLength l))) false (target := .length l) rfl
  have active := startLocate_record (s.begun how (freshHeld port (.locateLength l))) false (.length l)
  rw [begun_freshRecord] at point active
  have record : s.freshRecord (.length l) = _ := freshRecord_of_aim rfl
  rw [seq, speed, locate]
  exact ⟨travel, _, active, by rw [record], by rw [record], by rw [record]; rfl, point⟩

/-- A RETURN started over no waiting chase that may be granted: the list stands, and the entry is the target without an offset
(R89, R104, R158). -/
theorem start_return {s : State} {port : Port} {how : StartKind} (e : ReturnEntry)
    (hw : (s.beginStart how).arb.chase = .waiting →
      paramOf s.ports.params Param.chaseLevel < paramOf s.ports.params Param.lockoutLevel) :
    (s.start how (returnHeld port e)).arb.returns = (s.beginStart how).arb.returns
      ∧ ∃ r, (s.start how (returnHeld port e)).locate.active = some r ∧ r.target = .returnTo e ∧ r.aim = e.length
        ∧ r.offset = 0 := by
  obtain ⟨-, arb⟩ := start_beside (h := returnHeld port e) rfl rfl hw
  obtain ⟨-, -, locate⟩ := start_keeps_handOver (h := returnHeld port e) rfl hw
  have active := startLocate_record (s.begun how (returnHeld port e)) false (.returnTo e)
  rw [begun_freshRecord] at active
  have record : s.freshRecord (.returnTo e) = _ := freshRecord_of_aim rfl
  rw [arb, locate]
  exact ⟨rfl, _, active, by rw [record], by rw [record], by rw [record]; rfl⟩

/-- Settles O60: from STOPPED both locates start fresh, LOCATE_LENGTH with a push and RETURN over its popped entry. -/
theorem returnListPushesAndPops : Obligations.ReturnListPushesAndPops := by
  intro port h s stopped head idle inactive above
  have still : s.seq.transport.isChase = false := by rw [stopped]; rfl
  have fresh {u : State} {k : Held} (hu : u.seq.transport = .stopped) (hk : k.req ≠ .stop)
      (check : u.startCheck k = none) : u.judge k = (u.start .fresh k, .ok) := by
    simp [State.judge, hu, hk, tryStart_of_check check]
  refine ⟨fun l lo hi => ?_, motion_return_empty (by rw [stopped]; rfl) still above, fun e rest entries => ?_⟩
  · have refused : (s.beginStart .fresh).arb.chase = .waiting → paramOf s.ports.params Param.chaseLevel
        < paramOf s.ports.params Param.lockoutLevel := fun waiting => absurd waiting idle
    have handed := start_handedOn (h := freshHeld port (.locateLength l)) rfl refused
    obtain ⟨returns, wrapped, room⟩ := begun_pushes (h := freshHeld port (.locateLength l)) rfl (by rw [stopped]; rfl)
    obtain ⟨travel, located⟩ := start_locateLength (port := port) l refused
    have place : s.returnEntry = { length := h, address := headAddress s.map.spans (some h) } := by
      simp [State.returnEntry, State.headNow, head]
    have started : s.motion port (.locateLength l) = (s.start .fresh (freshHeld port (.locateLength l)), .ok) := by
      rw [motion_judged (by rw [stopped]; rfl) still above (operandTest_locateLength lo hi) (by simp)]
      exact fresh stopped (by simp [freshHeld]) rfl
    refine ⟨_, started, ?_, fun full => ?_, fun few => ?_, travel, located, ?_⟩
    · rw [handed.arb, returns, place]
    · rw [handed.ports]
      exact wrapped full
    · rw [handed.ports]
      exact room few
    · rw [handed.arb, begun_arb]
      rfl
  · have started : (s.setReturns rest).judge (returnHeld port e)
        = ((s.setReturns rest).start .fresh (returnHeld port e), .ok) := fresh stopped (by simp) rfl
    rw [motion_return (by rw [stopped]; rfl) still above entries, started]
    exact ⟨_, rfl, start_return e fun waiting => absurd waiting idle⟩

/-! ## The grant of a waiting chase (R50, R90, R95, R96, R171, R178) -/

/-- The result of a locate that another event ends (R154, R171). -/
theorem endLocate_result {s : State} {r : LocateRecord} (o : LocateOutcome) (h : s.locate.active = some r) :
    (s.endLocate o).locate.result = some (s.resultOf r o) := by
  simp [State.endLocate, h]

/-- The state in which a granted chase takes over: a motion of another source preempted, a locate in force ended (R90,
R171). -/
def State.yielded (s : State) : State := (s.raiseIf s.otherSource .preempted).endLocate .preempted

section Yielded

variable (s : State)

@[simp] theorem yielded_geom : s.yielded.geom = s.geom := by simp [State.yielded]
@[simp] theorem yielded_speed : s.yielded.speed = s.speed := by simp [State.yielded]
@[simp] theorem yielded_seq : s.yielded.seq = s.seq := by simp [State.yielded]
@[simp] theorem yielded_arb : s.yielded.arb = s.arb := by simp [State.yielded]
@[simp] theorem yielded_map : s.yielded.map = s.map := by simp [State.yielded]
@[simp] theorem yielded_marks : s.yielded.marks = s.marks := by simp [State.yielded]
@[simp] theorem yielded_prot : s.yielded.prot = s.prot := by simp [State.yielded]
@[simp] theorem yielded_due : s.yielded.due = s.due := by simp [State.yielded]
@[simp] theorem yielded_params : s.yielded.ports.params = s.ports.params := by simp [State.yielded]
@[simp] theorem yielded_active : s.yielded.locate.active = none := by simp [State.yielded]

theorem yielded_ports : s.yielded.ports = (s.raiseIf s.otherSource .preempted).ports := by simp [State.yielded]

variable {s}

theorem yielded_result {r : LocateRecord} (h : s.locate.active = some r) :
    s.yielded.locate.result = some (s.resultOf r .preempted) := by
  rw [State.yielded, endLocate_result .preempted (by rw [raiseIf_locate]; exact h)]
  simp [State.resultOf, State.headNow]

theorem yielded_startCatch : s.yielded.startCatch = s.startCatch := by
  simp [State.startCatch]

end Yielded


/-- From a motion other than PLAY RUNNING a granted chase starts by its own halt (R96). -/
theorem grantChase_halts {s : State} (hm : s.seq.transport.chaseMayPreempt = true)
    (hr : s.seq.transport ≠ .play .running) :
    s.grantChase = ((s.yielded.setRecord
        { kind := .stop, source := .chase, level := paramOf s.ports.params Param.chaseLevel }).setChase
      .starting).setTransport .halting (some .chaseParked) := by
  have seq : ((s.raiseIf s.otherSource .preempted).endLocate .preempted).seq = s.seq := yielded_seq s
  unfold State.grantChase
  dsimp only
  rw [seq]
  split
  · next e => rw [e] at hm; cases hm
  · next e => exact absurd e hr
  · rfl

/-- From PLAY RUNNING it rolls on (R96). -/
theorem grantChase_rolls {s : State} (hr : s.seq.transport = .play .running) :
    s.grantChase = s.yielded.enterChase .rolling (paramOf s.ports.params Param.chaseLevel) := by
  have seq : ((s.raiseIf s.otherSource .preempted).endLocate .preempted).seq = s.seq := yielded_seq s
  unfold State.grantChase
  dsimp only
  rw [seq, hr]
  rfl

/-- An entry to CHASE from its record on, and the catch that follows it (R96, R178). -/
theorem enterChase_handedOn (u : State) (p : ChasePhase) (l : Int) :
    HandedOn u.startCatch ((u.setRecord { kind := .chase, source := .chase, level := l }).setChase .granted)
      (u.enterChase p l) := by
  have changed := setTransport_handedOn (new := .chase p) none rfl
    (u := (u.setRecord { kind := .chase, source := .chase, level := l }).setChase .granted)
  have prot : ((State.setTransport (.chase p) none
      ((u.setRecord { kind := .chase, source := .chase, level := l }).setChase .granted)).setRatio 4096).prot = u.prot :=
    changed.prot
  have caught : ((State.setTransport (.chase p) none
      ((u.setRecord { kind := .chase, source := .chase, level := l }).setChase .granted)).setRatio 4096).startCatch
        = u.startCatch := by
    rw [State.startCatch, prot]
    rfl
  rw [State.enterChase, noteStart_eq rfl, caught]
  exact ⟨changed.arb, changed.ports, changed.marks, changed.prot, rfl, changed.vRef, changed.head, changed.map⟩

/-- The phase entered, with the grant line and the ratio of R50, and the locate unit's record as it stood. -/
theorem enterChase_spec (u : State) (p : ChasePhase) (l : Int) :
    (u.enterChase p l).seq.transport = .chase p ∧ (u.enterChase p l).seq.outputs.grant = true
      ∧ (u.enterChase p l).speed.chaseRatio = 4096 ∧ (u.enterChase p l).locate.active = u.locate.active
      ∧ (u.enterChase p l).locate.result = u.locate.result := by
  rw [State.enterChase, noteStart_eq rfl]
  exact ⟨rfl, rfl, rfl, rfl, rfl⟩

/-- An entry to a phase that reads keeps the map (R112). -/
theorem enterChase_keeps_map {u : State} {p : ChasePhase} (l : Int) (h : (Transport.chase p).reading = true) :
    (u.enterChase p l).map = u.map := by
  rw [State.enterChase, noteStart_map]
  exact setTransport_keeps_map none (.inr h)

/-- What a chase granted over an active motion does to it, and what it leaves as it was (R90, R96, R171). -/
structure ChaseTakes (m : Motion) (s t : State) : Prop where
  preempted : m.source ≠ .chase → ∀ p, (t.ports.port p).has .preempted = true
  ports : m.source = .chase → t.ports = s.ports
  locate : t.locate.active = none
  vRef : t.speed.vRef = s.speed.vRef
  head : t.geom.head = s.geom.head
  marks : t.marks = s.marks
  prot : t.prot = s.prot
  result : ∀ r, s.locate.active = some r → t.locate.result = some (s.resultOf r .preempted)

theorem grantChase_takes {s : State} {m : Motion} (hm : s.arb.active = some m)
    (ht : s.seq.transport.chaseMayPreempt = true) : ChaseTakes m s s.grantChase := by
  have measuring : s.seq.transport.isMeasuring = false := by
    cases hs : s.seq.transport <;> first | rfl | (rw [hs] at ht; cases ht)
  have takes {caught : List Due} {r : Motion} {c : ChaseState} {t : State}
      (handed : HandedOn caught ((s.yielded.setRecord r).setChase c) t)
      (active : t.locate.active = s.yielded.locate.active) (result : t.locate.result = s.yielded.locate.result) :
      ChaseTakes m s t := by
    have ports : t.ports = (s.raiseIf (m.source != .chase) .preempted).ports := by
      rw [handed.ports]
      have other : s.otherSource = (m.source != .chase) := by rw [State.otherSource, hm]
      rw [← other]
      exact yielded_ports s
    refine ⟨fun hs p => ?_, fun hs => ?_, by rw [active, yielded_active], ?_, ?_, ?_, ?_, fun q hq => ?_⟩
    · rw [ports, raiseIf_has]
      simp [hs]
    · rw [ports, hs]
      rfl
    · exact handed.vRef.trans (congrArg Speed.vRef (yielded_speed s))
    · refine (handed.head ?_).trans (congrArg Geometry.head (yielded_geom s))
      rw [setChase_seq, setRecord_seq, yielded_seq]
      exact measuring
    · exact handed.marks.trans (yielded_marks s)
    · exact handed.prot.trans (yielded_prot s)
    · rw [result, yielded_result hq]
  by_cases hr : s.seq.transport = .play .running
  · rw [grantChase_rolls hr]
    obtain ⟨-, -, -, active, result⟩ :=
      enterChase_spec s.yielded .rolling (paramOf s.ports.params Param.chaseLevel)
    exact takes (enterChase_handedOn ..) active result
  · rw [grantChase_halts ht hr]
    exact takes (setTransport_handedOn _ rfl) rfl rfl

/-- A waiting chase above the active motion, at the lockout level or above, is granted (R95). -/
theorem examineChase_grants {s : State} {m : Motion} (hw : s.arb.chase = .waiting) (hm : s.arb.active = some m)
    (ht : s.seq.transport.chaseMayPreempt = true)
    (hl : paramOf s.ports.params Param.lockoutLevel ≤ paramOf s.ports.params Param.chaseLevel)
    (hk : m.kind ≠ .unthread) (hlev : m.level < paramOf s.ports.params Param.chaseLevel) :
    s.examineChase = s.grantChase := by
  have grantable : s.chaseGrantable = true := by
    simp [State.chaseGrantable, State.roomForChase, State.param, hw, hm, ht, hl, hk, hlev]
  rw [State.examineChase, if_pos grantable]

/-- Over an UNTHREAD or a motion of its level or a higher one it waits on (R95). -/
theorem examineChase_noRoom {s : State} {m : Motion} (hm : s.arb.active = some m)
    (h : m.kind = .unthread ∨ paramOf s.ports.params Param.chaseLevel ≤ m.level) (ht : s.seq.transport ≠ .stopped) :
    s.examineChase = s := by
  have room : s.roomForChase (paramOf s.ports.params Param.chaseLevel) = false := by
    rcases h with h | h
    · simp [State.roomForChase, hm, h]
    · simp [State.roomForChase, hm, not_lt.mpr h]
  simp [State.examineChase, State.chaseGrantable, State.param, ht, room]

theorem chaseMayPreempt_iff (t : Transport) :
    t.chaseMayPreempt = true
      ↔ (∃ p, t = .play p) ∨ t = .wind ∨ t = .shuttle ∨ (∃ p, t = .locate p) ∨ t = .halting := by
  cases t <;> simp [Transport.chaseMayPreempt]

/-- The arbiter and the raised events after a grant over a motion that halts for it (R96). -/
theorem grantChase_halting {s : State} (hm : s.seq.transport.chaseMayPreempt = true)
    (hr : s.seq.transport ≠ .play .running) :
    s.grantChase.seq.transport = .halting ∧ s.grantChase.seq.restDest = some .chaseParked
      ∧ s.grantChase.seq.outputs.grant = false ∧ s.grantChase.due = s.due
      ∧ s.grantChase.ports.params = s.ports.params
      ∧ s.grantChase.arb = { s.arb with
          chase := .starting
          active := some { kind := .stop, source := .chase, level := paramOf s.ports.params Param.chaseLevel } } := by
  rw [grantChase_halts hm hr, ← yielded_due s, ← yielded_arb s]
  exact ⟨rfl, rfl, rfl, rfl, yielded_params s, rfl⟩

/-- The same after a grant over PLAY RUNNING (R96). -/
theorem grantChase_rolling {s : State} (hr : s.seq.transport = .play .running) :
    s.grantChase.seq.transport = .chase .rolling ∧ s.grantChase.seq.outputs.grant = true
      ∧ s.grantChase.speed.chaseRatio = 4096 ∧ s.grantChase.map = s.map ∧ s.grantChase.due = s.due ++ s.startCatch
      ∧ s.grantChase.arb = { s.arb with
          chase := .granted
          active := some { kind := .chase, source := .chase, level := paramOf s.ports.params Param.chaseLevel } } := by
  obtain ⟨rolling, grant, ratio, -, -⟩ :=
    enterChase_spec s.yielded .rolling (paramOf s.ports.params Param.chaseLevel)
  have handed := enterChase_handedOn s.yielded .rolling (paramOf s.ports.params Param.chaseLevel)
  rw [grantChase_rolls hr, ← yielded_startCatch, ← yielded_due s, ← yielded_arb s, ← yielded_map s]
  exact ⟨rolling, grant, ratio, enterChase_keeps_map _ rfl, handed.due, handed.arb⟩

/-! ## The rise of the chase request line (R94, R95) -/

theorem exec_chaseRequestRise {s : State} (h : Due.extStopCatch ∉ s.due) :
    exec .chaseRequestRise s = .next (if s.arb.chaseLine then s else s.chaseRise) := by
  show Host.Outcome.next (if s.takeCatches.arb.chaseLine then s.takeCatches else s.takeCatches.chaseRise) = _
  rw [takeCatches_of_not_mem h]

/-- The line high and the request waiting, before the examination. -/
def State.requesting (s : State) : State := (s.setChaseLine true).setChase .waiting

/-- A rise in IDLE waits and is examined (R95). -/
theorem exec_chaseRequestRise_idle {s : State} (h : Due.extStopCatch ∉ s.due) (low : s.arb.chaseLine = false)
    (idle : s.arb.chase = .idle) : exec .chaseRequestRise s = .next s.requesting.examineChase := by
  rw [exec_chaseRequestRise h, low, State.chaseRise, setChaseLine_chase, idle]
  rfl

/-! ## A level set by request (R82, R95, R202) -/

/-- A parameter stored that no held drive word follows. -/
def State.withParam (n : Nat) (v : Int) (s : State) : State :=
  { s with ports := { s.ports with params := s.ports.params.set n v } }

/-- A level or the lockout level set within its range is stored as given, and a waiting chase is examined again. -/
theorem setParameter_level {s : State} {n : Nat} {v : Int} {row : ParamRow} (lo : Param.panelLevel ≤ n)
    (hi : n ≤ Param.lockoutLevel) (hrow : paramRows[n]? = some row) (hlo : row.lo ≤ v) (hhi : v ≤ row.hi) :
    s.setParameter n v
      = { state := (s.withParam n v).examineChase, status := .ok, results := s32 v } := by
  have h1 : 27 ≤ n := lo
  have h2 : n ≤ 30 := hi
  have stored : paramStored n row v = v := by
    rw [paramStored, if_neg (by show n ≠ 0; omega), if_neg (by show n ≠ 26; omega), clampTo_of_mem hlo hhi]
  have written : s.writeParam n v = s.withParam n v := by
    rw [State.writeParam]
    dsimp only
    rw [if_neg (by show n ≠ 22; omega), if_neg (by show n ≠ 23; omega), if_neg (by show n ≠ 8; omega)]
    rfl
  rw [State.setParameter, hrow]
  simp only [stored, State.storeParam, written, if_pos (And.intro lo hi)]
  simp [clampedIf]

/-- Settles O52: each clause is one outcome of the examination, after a rise or after a level is set. -/
theorem chaseGrantedAtRestAndInMotion : Obligations.ChaseGrantedAtRestAndInMotion := by
  refine ⟨fun s caught hc hcaught => ⟨fun high => ?_, fun low idle => ?_, fun low releasing => ?_⟩,
    fun n v row m ps s lo hi hrow hlo hhi waiting hps hm hs => ?_⟩
  · rw [exec_chaseRequestRise hc, high]
    rfl
  · have rises := exec_chaseRequestRise_idle hc low idle
    have waits (h : s.requesting.examineChase = s.requesting) : exec .chaseRequestRise s
        = .next { s with arb := { s.arb with chaseLine := true, chase := .waiting } } := by rw [rises, h]; rfl
    refine ⟨fun locked => waits (examineChase_refused fun _ => locked), fun above =>
      ⟨fun stopped inactive unlocated => ?_, fun moving hor => waits ?_, fun m hm hk hlev hs => ?_⟩⟩
    · have parks := examineChase_parks (u := s.requesting) stopped inactive unlocated rfl above
      obtain ⟨parked, grant, ratio, -, -⟩ :=
        enterChase_spec s.requesting .parked (paramOf s.ports.params Param.chaseLevel)
      have handed := enterChase_handedOn s.requesting .parked (paramOf s.ports.params Param.chaseLevel)
      rw [rises, parks]
      exact ⟨_, rfl, parked, grant, handed.arb, ratio, handed.ports,
        handed.head (congrArg Transport.isMeasuring stopped), handed.marks,
        handed.map (congrArg Transport.reading stopped), hcaught ▸ handed.due⟩
    · rcases hor with ⟨play, wind, shuttle, locate, halting⟩ | ⟨m, hm, full⟩
      · have stays : s.seq.transport.chaseMayPreempt = false := by
          rw [Bool.eq_false_iff, ne_eq, chaseMayPreempt_iff]
          simp [play, wind, shuttle, locate, halting]
        exact examineChase_of_state moving stays
      · exact examineChase_noRoom (s := s.requesting) hm full moving
    · have preempts := (chaseMayPreempt_iff s.seq.transport).mpr hs
      have granted := examineChase_grants (s := s.requesting) rfl hm preempts above hk hlev
      have takes := grantChase_takes (s := s.requesting) hm preempts
      rw [rises, granted]
      refine ⟨_, rfl, fun running => ?_, fun other => ?_, takes.preempted, takes.ports, takes.locate, takes.vRef,
        takes.head, takes.marks, takes.prot, takes.result⟩
      · obtain ⟨rolling, grant, ratio, map, due, arb⟩ := grantChase_rolling (s := s.requesting) running
        exact ⟨rolling, grant, ratio, map, hcaught ▸ due, arb⟩
      · obtain ⟨halting, dest, grant, due, -, arb⟩ := grantChase_halting (s := s.requesting) preempts other
        exact ⟨halting, dest, grant, due, arb⟩
  · rw [exec_chaseRequestRise hc, low, State.chaseRise, setChaseLine_chase, releasing]
    rfl
  · have moving : s.seq.transport ≠ .stopped := by rintro e; simp [e] at hs
    have running : s.seq.transport ≠ .play .running := by rintro e; simp [e] at hs
    have preempts : s.seq.transport.chaseMayPreempt = true := by rcases hs with e | e | e <;> rw [e] <;> rfl
    subst hps
    rw [setParameter_level lo hi hrow hlo hhi]
    refine ⟨rfl, fun hor => ?_, fun above hk hlev => ?_⟩
    · rcases hor with locked | full
      · exact examineChase_refused (s := s.withParam n v) fun _ => locked
      · exact examineChase_noRoom (s := s.withParam n v) hm full moving
    · have granted := examineChase_grants (s := s.withParam n v) waiting hm preempts above hk hlev
      have takes := grantChase_takes (s := s.withParam n v) hm preempts
      obtain ⟨halting, dest, -, -, params, arb⟩ := grantChase_halting (s := s.withParam n v) preempts running
      rw [granted]
      exact ⟨_, rfl, params, halting, dest, arb, takes.preempted, takes.vRef, takes.marks⟩

/-! ## A request judged against an active motion (R73, R88, R90, R95) -/

/-- A request of the record's source replaces, one of another source and a higher level preempts (R88). -/
theorem judgeActive_starts {s : State} {m : Motion} {h : Held} (hm : s.arb.active = some m)
    (hor : m.source = h.port.source ∨ m.level < s.portLevel h.port) :
    s.judgeActive h = s.tryStart (if m.source = h.port.source then .replace else .preempt) h := by
  by_cases hs : m.source = h.port.source
  · simp [State.judgeActive, hm, hs]
  · simp [State.judgeActive, hm, hs, hor.resolve_left hs]

/-- A WIND over PLAY, WIND or SHUTTLE is judged against the active motion. -/
theorem motion_wind_active {s : State} {port : Port} (v : Int) (hw : s.seq.transport.watchesLeader = true)
    (hl : paramOf s.ports.params Param.lockoutLevel ≤ s.portLevel port) :
    s.motion port (.wind v) = s.judgeActive (freshHeld port (.wind v)) := by
  obtain ⟨chase, -, -, -, moving⟩ := watchesLeader_cases hw
  have valid : MotionReq.validIn (.wind v) s.seq.transport = true := by
    rcases moving with ⟨p, e⟩ | e | e <;> rw [e] <;> rfl
  rw [motion_judged valid chase hl rfl (by simp), judge_active (by simp [freshHeld]) (.inl hw)]

/-- A WIND of the record's source or above its level starts over PLAY, WIND or SHUTTLE, in place of the motion exactly when
the source is the same (R88). -/
theorem motion_wind_starts {s : State} {port : Port} {m : Motion} (v : Int) (hw : s.seq.transport.watchesLeader = true)
    (hl : paramOf s.ports.params Param.lockoutLevel ≤ s.portLevel port) (hm : s.arb.active = some m)
    (hor : m.source = port.source ∨ m.level < s.portLevel port) :
    ∃ how, (how = .replace ∨ how = .preempt) ∧ (m.source = port.source ↔ how = .replace)
      ∧ s.motion port (.wind v) = (s.start how (freshHeld port (.wind v)), .ok) := by
  rw [motion_wind_active v hw hl, judgeActive_starts hm hor, tryStart_of_check rfl]
  by_cases own : m.source = port.source
  · exact ⟨.replace, .inl rfl, by simp [own], by simp [own, freshHeld]⟩
  · exact ⟨.preempt, .inr rfl, by simp [own], by simp [own, freshHeld]⟩

/-- A motion handed over and reported to the protection unit, before a waiting chase is examined (R89, R95, R178). -/
def State.noted (how : StartKind) (h : Held) (s : State) : State :=
  ((s.begun how h).handOver how h).noteStart h.req.kind

section Noted

variable {s : State} {how : StartKind} {h : Held}

theorem start_eq_noted : s.start how h = (s.noted how h).examineChase := rfl

theorem noted_spec : (s.noted how h).seq = ((s.begun how h).handOver how h).seq
    ∧ (s.noted how h).speed = ((s.begun how h).handOver how h).speed
    ∧ (s.noted how h).locate = ((s.begun how h).handOver how h).locate := by
  simp [State.noted]

/-- What the hand-over and the report of a driving motion keep. -/
theorem noted_handedOn (hc : h.req.kind.caught = true) : HandedOn s.startCatch (s.begun how h) (s.noted how h) := by
  have handed := handOver_handedOn (u := s.begun how h) how hc
  have params : ((s.begun how h).handOver how h).ports.params = s.ports.params := by rw [handed.ports, begun_params]
  have caught : ((s.begun how h).handOver how h).startCatch = s.startCatch := by
    rw [State.startCatch, State.startCatch, handed.prot, begun_prot, params]
  rw [State.noted, noteStart_eq hc, caught, handed.due, List.append_nil]
  exact ⟨handed.arb, handed.ports, handed.marks, handed.prot, rfl, handed.vRef, handed.head, handed.map⟩

end Noted

/-- A WIND that replaces its own source's motion, up to the examination of a waiting chase (R73, R89). -/
theorem noted_wind (s : State) (port : Port) (v : Int) :
    (s.noted .replace (freshHeld port (.wind v))).seq.transport = .wind
      ∧ (s.noted .replace (freshHeld port (.wind v))).speed.requested = v
      ∧ (s.noted .replace (freshHeld port (.wind v))).speed.vRef = s.speed.vRef
      ∧ (s.noted .replace (freshHeld port (.wind v))).ports = s.ports
      ∧ (s.noted .replace (freshHeld port (.wind v))).marks = s.marks
      ∧ (s.noted .replace (freshHeld port (.wind v))).due = s.due ++ s.startCatch
      ∧ (s.noted .replace (freshHeld port (.wind v))).arb = { s.arb with
          active := some { kind := .wind, source := port.source, level := s.portLevel port } } := by
  obtain ⟨seq, speed, -⟩ := noted_spec (s := s) (how := .replace) (h := freshHeld port (.wind v))
  have handed := noted_handedOn (s := s) (how := .replace) (h := freshHeld port (.wind v)) rfl
  rw [begun_eq_recorded _ _ _ rfl] at handed
  refine ⟨by rw [seq]; rfl, by rw [speed]; rfl, ?_, ?_, ?_, ?_, ?_⟩
  · rw [handed.vRef, recorded_speed]
  · rw [handed.ports, recorded_ports]
    rfl
  · rw [handed.marks, recorded_marks]
  · rw [handed.due, recorded_due]
  · rw [handed.arb, recorded_arb]
    rfl

/-! ## A panel request against a chase (R71, R91, R93, R98, R100, R171) -/

/-- PLAY, WIND and SHUTTLE: the motions that push no return entry and have no start check of their own. -/
structure PlainDrive (req : MotionReq) : Prop where
  caught : req.kind.caught = true
  pushes : req.pushesReturn = false
  valid : ∀ t : Transport, t.isChase = true ∨ t = .halting → req.validIn t = true
  operand : ∀ s : State, s.operandTest req = none
  check : ∀ (s : State) (port : Port), s.startCheck (freshHeld port req) = none
  notStop : req ≠ .stop
  notReturn : req ≠ .returnBack

theorem plainDrive_of {req : MotionReq} (h : req = .play ∨ (∃ v, req = .wind v) ∨ ∃ v, req = .shuttle v) :
    PlainDrive req := by
  have valid (t : Transport) (ht : t.isChase = true ∨ t = .halting) : MotionReq.validIn .play t = true := by
    rcases ht with ht | rfl
    · cases t <;> first | rfl | cases ht
    · rfl
  rcases h with rfl | ⟨v, rfl⟩ | ⟨v, rfl⟩ <;>
    exact ⟨rfl, rfl, valid, fun _ => rfl, fun _ _ => rfl, by simp, by simp⟩

/-- The panel's requests have their meaning in every chase phase (R98): only the state and the lockout test refuse them. -/
theorem admission_panel {s : State} {req : MotionReq} (hv : req.validIn s.seq.transport = true)
    (hl : paramOf s.ports.params Param.lockoutLevel ≤ s.portLevel .panel) :
    s.admission (freshHeld .panel req) = none := by
  have unlocked : ¬s.portLevel .panel < s.param Param.lockoutLevel := not_lt.mpr hl
  simp [State.admission, freshHeld, hv, Held.chaseRefuses, State.lockedOut, unlocked]

theorem motion_panel_judged {s : State} {req : MotionReq} (hr : PlainDrive req)
    (hl : paramOf s.ports.params Param.lockoutLevel ≤ s.portLevel .panel)
    (ht : s.seq.transport.isChase = true ∨ s.seq.transport = .halting) :
    s.motion .panel req = s.judge (freshHeld .panel req) :=
  motion_eq_judge (hr.operand s) (admission_panel (hr.valid _ ht) hl) hr.notReturn

/-- In CHASE a request at or below the record's level waits in the slot (R91, R100). -/
theorem motion_panel_holds {s : State} {req : MotionReq} {m : Motion} (hr : PlainDrive req)
    (hm : s.arb.active = some m) (hl : paramOf s.ports.params Param.lockoutLevel ≤ s.portLevel .panel)
    (hlev : s.portLevel .panel ≤ m.level) (ht : s.seq.transport.isChase = true) :
    s.motion .panel req = s.hold (freshHeld .panel req) := by
  rw [motion_panel_judged hr hl (.inl ht)]
  cases hs : s.seq.transport with
  | chase p => simp [State.judge, hs, freshHeld, State.panelInChase, State.recordLevel, hm, not_lt.mpr hlev]
  | _ => rw [hs] at ht; cases ht

/-- In the halt of a STARTING chase it is refused (R100). -/
theorem motion_panel_busy {s : State} {req : MotionReq} {m : Motion} (hr : PlainDrive req)
    (hm : s.arb.active = some m) (hl : paramOf s.ports.params Param.lockoutLevel ≤ s.portLevel .panel)
    (hlev : s.portLevel .panel ≤ m.level) (ht : s.seq.transport = .halting) (hc : s.arb.chase = .starting) :
    s.motion .panel req = (s, .busy) := by
  rw [motion_panel_judged hr hl (.inr ht)]
  simp [State.judge, ht, hc, freshHeld, hr.notStop, State.judgeStarting, State.recordLevel, hm, not_lt.mpr hlev]

/-- Above the record's level it breaks the chase and starts (R100). -/
theorem motion_panel_breaks {s : State} {req : MotionReq} {m : Motion} (hr : PlainDrive req)
    (hm : s.arb.active = some m) (hl : paramOf s.ports.params Param.lockoutLevel ≤ s.portLevel .panel)
    (hlev : m.level < s.portLevel .panel)
    (ht : s.seq.transport.isChase = true ∨ (s.seq.transport = .halting ∧ s.arb.chase = .starting)) :
    s.motion .panel req = (s.start .breakChase (freshHeld .panel req), .ok) := by
  rw [motion_panel_judged hr hl (ht.imp id And.left), ← tryStart_of_check (hr.check s .panel)]
  rcases ht with ht | ⟨ht, hc⟩
  · cases hs : s.seq.transport with
    | chase p => simp [State.judge, hs, freshHeld, State.panelInChase, State.recordLevel, hm, hlev]
    | _ => rw [hs] at ht; cases ht
  · simp [State.judge, ht, hc, freshHeld, hr.notStop, State.judgeStarting, State.recordLevel, hm, hlev]

/-- The states of a chase and of its halt in which the capstan drives the tape (R71). -/
theorem chase_driven {t : Transport} (kind : Option DecelKind) (h : t.isChase = true ∨ t = .halting) :
    t.capstanActive kind = true
      ↔ t = .chase .rolling ∨ t = .chase (.locating .approach) ∨ t = .chase (.locating .verify)
        ∨ ((t = .chase .releasing ∨ t = .halting) ∧ kind = some .capstan) := by
  rcases h with h | rfl
  · cases t with
    | chase p =>
      cases p with
      | locating q => cases q <;> simp [Transport.capstanActive, Transport.genMode]
      | _ => simp [Transport.capstanActive, Transport.genMode]
    | _ => cases h
  · simp [Transport.capstanActive, Transport.genMode]

theorem chase_not_measuring {t : Transport} (h : t.isChase = true ∨ t = .halting) : t.isMeasuring = false := by
  rcases h with h | rfl
  · cases t <;> first | rfl | cases h
  · rfl

/-- The result of a locate that a start ends (R171). -/
theorem begun_result {s : State} {r : LocateRecord} (how : StartKind) (h : Held) (hr : s.locate.active = some r) :
    (s.begun how h).locate.result = some (s.resultOf r how.locateOutcome) := by
  have active : (s.beginStart how).locate.active = some r := by
    cases how <;> simp [State.beginStart, State.breakChase, hr]
  have same : (s.beginStart how).resultOf r how.locateOutcome = s.resultOf r how.locateOutcome := by
    simp [State.resultOf, State.headNow]
  rw [← same, ← endLocate_result how.locateOutcome active]
  simp [State.begun]

/-- What a motion that breaks a chase is handed over to (R47, R71, R73): its state, with the grant line low, and the locate
unit as it stood. -/
theorem handOver_breakChase {u : State} {req : MotionReq} {new : Transport} (port : Port)
    (hreq : (req = .play ∧ new = .play (if u.seq.transport.capstanActive u.speed.kind then .running else .braking))
      ∨ (∃ v, req = .wind v ∧ new = .wind) ∨ (∃ v, req = .shuttle v ∧ new = .shuttle)) :
    (u.handOver .breakChase (freshHeld port req)).seq.transport = new
      ∧ (u.handOver .breakChase (freshHeld port req)).seq.outputs.grant = false
      ∧ (∀ v, req = .wind v ∨ req = .shuttle v →
        (u.handOver .breakChase (freshHeld port req)).speed.requested = v)
      ∧ (u.handOver .breakChase (freshHeld port req)).locate.active = u.locate.active
      ∧ (u.handOver .breakChase (freshHeld port req)).locate.result = u.locate.result := by
  rcases hreq with ⟨rfl, rfl⟩ | ⟨v, rfl, rfl⟩ | ⟨v, rfl, rfl⟩
  · have played : u.handOver .breakChase (freshHeld port .play) = _ :=
      startPlay_eq (u := u) (how := .breakChase) (.inl (by simp))
    rw [played]
    exact ⟨rfl, rfl, by simp, rfl, rfl⟩
  · exact ⟨rfl, rfl, by simp [State.handOver, freshHeld], rfl, rfl⟩
  · exact ⟨rfl, rfl, by simp [State.handOver, freshHeld], rfl, rfl⟩

/-- What a panel motion leaves that starts over a broken chase: its state and record with the grant line low, CHASE_BROKEN in
both sets, nothing pending, a locate ended BROKEN, and the rest as it stood (R91, R93, R100, R171). -/
structure ChaseBroken (req : MotionReq) (new : Transport) (s t : State) : Prop where
  state : t.seq.transport = new
  grant : t.seq.outputs.grant = false
  requested : ∀ v, req = .wind v ∨ req = .shuttle v → t.speed.requested = v
  vRef : t.speed.vRef = s.speed.vRef
  locate : t.locate.active = none
  arb : t.arb = { s.arb with
    active := some { kind := req.kind, source := .panel, level := s.portLevel .panel }
    chase := if s.arb.chaseLine then .spent else .idle
    slot := none }
  broken : ∀ p, (t.ports.port p).has .chaseBroken = true
  dropped : ∀ h, s.arb.slot = some h → (t.ports.port h.port).has .pendingDropped = true
  head : t.geom.head = s.geom.head
  marks : t.marks = s.marks
  prot : t.prot = s.prot
  due : t.due = s.due ++ s.startCatch
  result : ∀ r, s.locate.active = some r → t.locate.result = some (s.resultOf r .broken)

theorem start_chaseBroken {s : State} {req : MotionReq} {new : Transport} (hr : PlainDrive req)
    (idle : s.arb.chase ≠ .waiting) (measuring : s.seq.transport.isMeasuring = false)
    (hreq : (req = .play ∧ new = .play (if s.seq.transport.capstanActive s.speed.kind then .running else .braking))
      ∨ (∃ v, req = .wind v ∧ new = .wind) ∨ (∃ v, req = .shuttle v ∧ new = .shuttle)) :
    ChaseBroken req new s (s.start .breakChase (freshHeld .panel req)) := by
  have protocol : s.arb.afterChase = if s.arb.chaseLine then .spent else .idle := if_neg idle
  have refused : (s.beginStart .breakChase).arb.chase = .waiting → paramOf s.ports.params Param.chaseLevel
      < paramOf s.ports.params Param.lockoutLevel := fun waiting => absurd (beginStart_waiting waiting) idle
  obtain ⟨after, broken⟩ := beginStart_break s
  obtain ⟨ports, arb⟩ := start_beside (h := freshHeld .panel req) hr.caught hr.pushes refused
  obtain ⟨seq, speed, locate⟩ := start_keeps_handOver (h := freshHeld .panel req) hr.caught refused
  have handed := start_handedOn (h := freshHeld .panel req) hr.caught refused
  obtain ⟨state, grant, requested, active, result⟩ :=
    handOver_breakChase (u := s.begun .breakChase (freshHeld .panel req)) .panel (by
      rw [begun_seq, begun_speed]
      exact hreq)
  rw [← seq] at state grant
  rw [← speed] at requested
  rw [← locate] at active result
  refine ⟨state, grant, requested, ?_, ?_, ?_, by rw [ports]; exact broken, fun h held => ?_, ?_, ?_, ?_, ?_,
    fun r located => ?_⟩
  · rw [handed.vRef, begun_speed]
  · rw [active, begun_locate]
  · rw [arb, after, protocol]
    rfl
  · rw [ports]
    exact dropPending_drops (s := s.breakChase) held
  · rw [handed.head (by rw [begun_seq]; exact measuring), begun_geom]
  · rw [handed.marks, begun_marks]
  · rw [handed.prot, begun_prot]
  · rw [handed.due, begun_due]
  · rw [result, begun_result .breakChase _ located]
    rfl

/-- Settles O56: the start of a WIND over a motion, the examination that may follow it, and the break of a chase. -/
theorem motionJudgedAgainstMotionOrChase : Obligations.MotionJudgedAgainstMotionOrChase := by
  refine ⟨fun port v m s hw hm idle above => ⟨fun other low => ?_, fun hor => ?_⟩,
    fun port v m s hw hm own waiting above passes => ?_,
    fun req kind new driven m s hm idle hdriven hreq above ht => ?_⟩
  · rw [motion_wind_active v hw above, judgeActive_busy (h := freshHeld port (.wind v)) hm other low]
  · obtain ⟨-, measuring, -⟩ := watchesLeader_cases hw
    obtain ⟨how, hhow, replaces, motion⟩ := motion_wind_starts v hw above hm hor
    have begun : (s.beginStart how).arb = s.arb := beginStart_arb (.inr hhow)
    have refused : (s.beginStart how).arb.chase = .waiting → paramOf s.ports.params Param.chaseLevel
        < paramOf s.ports.params Param.lockoutLevel := fun waiting => absurd (begun ▸ waiting) idle
    have started := start_driveStarted (s := s) (h := freshHeld port (.wind v)) rfl (.inr hhow) measuring
      fun waiting => absurd waiting idle
    obtain ⟨ports, -⟩ := start_beside (h := freshHeld port (.wind v)) rfl rfl refused
    obtain ⟨seq, speed, -⟩ := start_keeps_handOver (h := freshHeld port (.wind v)) rfl refused
    have prot := (start_handedOn (h := freshHeld port (.wind v)) rfl refused).prot
    refine ⟨_, motion, by rw [seq]; rfl, by rw [speed]; rfl, started.active, started.vRef, by rw [started.arb rfl],
      by rw [started.arb rfl], fun own => ?_, fun other p => ?_, started.head, started.marks, ?_, started.due⟩
    · rw [ports, replaces.mp own]
      rfl
    · rw [ports, hhow.resolve_left (mt replaces.mpr other)]
      simp [State.beginStart, raise_has]
    · rw [prot, begun_prot]
  · obtain ⟨wind, requested, vRef, ports, marks, due, arb⟩ := noted_wind s port v
    have active : (s.noted .replace (freshHeld port (.wind v))).arb.active
        = some { kind := .wind, source := port.source, level := s.portLevel port } := by rw [arb]
    obtain ⟨how, -, replaces, judged⟩ := motion_wind_starts v hw above hm (.inl own)
    rw [replaces.mp own, start_eq_noted] at judged
    refine ⟨_, judged, ?_⟩
    rcases lt_or_ge (s.portLevel port) (paramOf s.ports.params Param.chaseLevel) with low | high
    · have preempts : (s.noted .replace (freshHeld port (.wind v))).seq.transport.chaseMayPreempt = true := by
        rw [wind]; rfl
      have granted := examineChase_grants (by rw [arb]; exact waiting) active preempts (by rw [ports]; exact passes)
        (by simp) (by rw [ports]; exact low)
      have takes := grantChase_takes active preempts
      obtain ⟨halting, dest, -, raised, -, taken⟩ := grantChase_halting preempts (by rw [wind]; simp)
      rw [granted]
      refine ⟨takes.vRef.trans vRef, takes.marks.trans marks, raised.trans due, fun _ => ⟨halting, dest, ?_, ?_⟩,
        fun high => absurd high (not_le.mpr low)⟩
      · exact takes.preempted (by cases port <;> simp [Port.source])
      · rw [taken, arb, ports]
    · rw [examineChase_noRoom active (.inr (by rw [ports]; exact high)) (by rw [wind]; simp)]
      exact ⟨vRef, marks, due, fun low => absurd low (not_lt.mpr high), fun _ => ⟨wind, requested, ports, arb⟩⟩
  · have plain : PlainDrive req := plainDrive_of (by
      rcases hreq with ⟨e, -⟩ | ⟨v, e, -⟩ | ⟨v, e, -⟩ <;> simp [e])
    refine ⟨fun low => ⟨fun halting => motion_panel_busy plain hm above low halting ?_, fun chase => ?_⟩,
      fun high => ?_⟩
    · rcases ht with ht | ⟨-, hc⟩
      · rw [halting] at ht; cases ht
      · exact hc
    · rw [motion_panel_holds plain hm above low chase, hold_eq]
      exact ⟨_, rfl, rfl, rfl, fun empty => by rw [dropPending_of_none empty], fun h held => dropPending_drops held⟩
    · have state : s.seq.transport.isChase = true ∨ s.seq.transport = .halting := ht.imp id And.left
      have drives := hdriven.trans (chase_driven s.speed.kind state).symm
      have named : req.kind = kind := by
        rcases hreq with ⟨rfl, rfl, -⟩ | ⟨v, rfl, rfl, -⟩ | ⟨v, rfl, rfl, -⟩ <;> rfl
      have begins : (req = .play
          ∧ new = .play (if s.seq.transport.capstanActive s.speed.kind then .running else .braking))
          ∨ (∃ v, req = .wind v ∧ new = .wind) ∨ (∃ v, req = .shuttle v ∧ new = .shuttle) := by
        refine hreq.imp (fun ⟨e, _, run, brake⟩ => ⟨e, ?_⟩) (Or.imp (fun ⟨v, e, _, n⟩ => ⟨v, e, n⟩)
          fun ⟨v, e, _, n⟩ => ⟨v, e, n⟩)
        split
        · next active => exact run (drives.mpr active)
        · next still => exact brake (mt drives.mp still)
      have t := start_chaseBroken plain idle (chase_not_measuring state) begins
      exact ⟨_, motion_panel_breaks plain hm above high ht, t.state, t.grant, t.requested, t.vRef, t.locate,
        named ▸ t.arb, t.broken, t.dropped, t.head, t.marks, t.prot, t.due, t.result⟩

/-! ## The fall of the chase request line (R97, R101, R171) -/

theorem exec_chaseRequestFall {s : State} (h : Due.extStopCatch ∉ s.due) :
    exec .chaseRequestFall s = .next (if s.arb.chaseLine then s.chaseFall else s) := by
  show Host.Outcome.next (if s.takeCatches.arb.chaseLine then s.takeCatches.chaseFall else s.takeCatches) = _
  rw [takeCatches_of_not_mem h]

theorem exec_chaseRequestFall_high {s : State} (h : Due.extStopCatch ∉ s.due) (high : s.arb.chaseLine = true) :
    exec .chaseRequestFall s = .next s.chaseFall := by
  rw [exec_chaseRequestFall h, high]
  rfl

/-- A change to the transport that already stands leaves the speed unit as it is. -/
theorem setTransport_speed_same {s : State} {new : Transport} (d : Option RestDest) (h : s.seq.transport = new) :
    (s.setTransport new d).speed = s.speed := by
  rw [setTransport_speed, Speed.onChange, if_pos h]

/-- What a release leaves: CHASE RELEASING with the grant line high, and the locate in force ended RELEASED (R101, R171). -/
theorem startRelease_spec (s : State) :
    s.startRelease.seq.transport = .chase .releasing ∧ s.startRelease.arb = { s.arb with chase := .releasing }
      ∧ s.startRelease.seq.outputs.grant = true ∧ s.startRelease.locate.active = none
      ∧ s.startRelease.locate.located = s.locate.located ∧ s.startRelease.ports = s.ports
      ∧ ∀ r, s.locate.active = some r → s.startRelease.locate.result = some (s.resultOf r .released) := by
  have arb : s.startRelease.arb = { (s.endLocate .released).arb with chase := .releasing } := rfl
  rw [endLocate_arb] at arb
  exact ⟨rfl, arb, rfl, endLocate_active s .released, endLocate_located s .released, endLocate_ports s .released,
    fun r hr => endLocate_result .released hr⟩

/-- The deceleration of a release has the kind that R51 gives, and the pinch roller is down under the capstan alone (R62,
R101). -/
theorem startRelease_kind {s : State} (h : s.seq.transport ≠ .chase .releasing) :
    s.startRelease.speed.kind = some s.speed.fixKind
      ∧ s.startRelease.seq.outputs.pinchDown = (s.speed.fixKind == .capstan) := by
  have kind := setTransport_kind (s := s.endLocate .released) (new := .chase .releasing) none
    (by rw [endLocate_seq]; exact h) rfl
  have down : s.startRelease.seq.outputs.pinchDown
      = (Transport.chase .releasing).capstanActive s.startRelease.speed.kind := rfl
  rw [endLocate_speed] at kind
  rw [down, show s.startRelease.speed.kind = _ from kind]
  exact ⟨rfl, rfl⟩

/-- The kind by the mode that a chase phase stands in (R45, R51). -/
theorem fixKind_of_genMode {s : State} (hs : OutputsFollow s) :
    (s.speed.vRef = 0 → s.speed.fixKind = .atRest)
      ∧ (s.speed.vRef ≠ 0 → s.seq.transport.genMode = .capstan → s.speed.fixKind = .capstan)
      ∧ (s.speed.vRef ≠ 0 → s.seq.transport.genMode = .still ∨ s.seq.transport.genMode = .reel →
        s.speed.fixKind = .reel) := by
  obtain ⟨-, mode, -, -⟩ := hs
  rw [← mode]
  refine ⟨fun h => if_pos h, fun h hm => ?_, fun h hm => ?_⟩
  · rw [Speed.fixKind, if_neg h, if_pos (.inl hm)]
  · rw [Speed.fixKind, if_neg h, if_neg (by rcases hm with hm | hm <;> simp [hm])]

/-- The kind and the pinch roller of a release, phase by phase (R51, R62, R101). -/
theorem startRelease_rows {s : State} (hs : OutputsFollow s) (h : s.seq.transport ≠ .chase .releasing) :
    (s.speed.vRef = 0 → s.startRelease.speed.kind = some .atRest)
      ∧ (s.speed.vRef ≠ 0 → s.seq.transport ∈ [Transport.chase .rolling, .chase (.locating .approach),
          .chase (.locating .verify)] →
        s.startRelease.speed.kind = some .capstan ∧ s.startRelease.seq.outputs.pinchDown = true)
      ∧ (s.speed.vRef ≠ 0 → s.seq.transport ∈ [Transport.chase .parked, .chase (.locating .travel),
          .chase (.locating .reposition)] →
        s.startRelease.speed.kind = some .reel ∧ s.startRelease.seq.outputs.pinchDown = false) := by
  obtain ⟨kind, down⟩ := startRelease_kind h
  obtain ⟨rest, capstan, reel⟩ := fixKind_of_genMode hs
  refine ⟨fun hv => by rw [kind, rest hv], fun hv hp => ?_, fun hv hp => ?_⟩
  · have mode : s.seq.transport.genMode = .capstan := by
      simp only [List.mem_cons, List.not_mem_nil, or_false] at hp
      rcases hp with e | e | e <;> rw [e] <;> rfl
    rw [kind, down, capstan hv mode]
    exact ⟨rfl, rfl⟩
  · have mode : s.seq.transport.genMode = .still ∨ s.seq.transport.genMode = .reel := by
      simp only [List.mem_cons, List.not_mem_nil, or_false] at hp
      rcases hp with e | e | e <;> rw [e] <;> simp [Transport.genMode]
    rw [kind, down, reel hv mode]
    exact ⟨rfl, rfl⟩

/-! ## The studio's requests in a chase (R50, R98, R99, R171) -/

/-- A studio request that has its meaning in the chase phase is judged by the phase (R98). -/
theorem motion_studio_chase {s : State} {p : ChasePhase} {req : MotionReq} (ht : s.seq.transport = .chase p)
    (hl : paramOf s.ports.params Param.lockoutLevel ≤ s.portLevel .studio)
    (hv : req.validIn (.chase p) = true) (hc : (freshHeld .studio req).chaseRefuses (.chase p) = false)
    (ho : s.operandTest req = none) (hr : req ≠ .returnBack) :
    s.motion .studio req = s.studioInChase p (freshHeld .studio req) := by
  have unlocked : ¬s.portLevel .studio < s.param Param.lockoutLevel := not_lt.mpr hl
  have admitted : s.admission (freshHeld .studio req) = none := by
    rw [State.admission, ht, hc]
    simp [freshHeld, hv, State.lockedOut, unlocked]
  rw [motion_eq_judge ho admitted hr]
  simp [State.judge, ht, freshHeld]

/-- WIND and SHUTTLE have no meaning there, but in RELEASING (R98). -/
theorem motion_studio_refused {s : State} {p : ChasePhase} {req : MotionReq} (ht : s.seq.transport = .chase p)
    (hp : p ≠ .releasing) (hreq : ∃ v, req = .wind v ∨ req = .shuttle v) :
    s.motion .studio req = (s, .badState) := by
  obtain ⟨v, hv⟩ := hreq
  have refuses : (freshHeld .studio req).chaseRefuses s.seq.transport = true := by
    rw [ht]
    rcases hv with rfl | rfl <;> cases p <;> first | rfl | exact absurd rfl hp
  have operand : s.operandTest req = none := by rcases hv with rfl | rfl <;> rfl
  unfold freshHeld at refuses
  simp [State.motion, operand, State.motionFromStateTest, State.admission, refuses]

/-- CHASE_SPEED clamps its ratio, and raises CHASE_CLAMPED in both sets when it does (R50, R99). -/
theorem chaseSpeed_eq (s : State) (ratio : Int) :
    s.chaseSpeed ratio
      = ({ s with speed := { s.speed with chaseRatio := max 3584 (min 4608 ratio) }
                  ports := (s.raiseIf (decide ¬(3584 ≤ ratio ∧ ratio ≤ 4608)) .chaseClamped).ports },
          if 3584 ≤ ratio ∧ ratio ≤ 4608 then .ok else .clamped) := by
  have clamp : clampTo 3584 4608 ratio = max 3584 (min 4608 ratio) := clampTo_eq_max_min (by decide) ratio
  have kept : max 3584 (min 4608 ratio) = ratio ↔ 3584 ≤ ratio ∧ ratio ≤ 4608 := by omega
  simp only [State.chaseSpeed, clamp, ne_eq, kept]
  rw [raiseIf_eq]
  cases decide ¬(3584 ≤ ratio ∧ ratio ≤ 4608) <;> rfl

/-- A studio request that moves the chase to PARKED or ROLLING ends the locate in force REPLACED (R62, R98, R171). -/
theorem chasePhase_spec (s : State) {q : ChasePhase} (hq : q = .parked ∨ q = .rolling) :
    (s.chasePhase q).seq.transport = .chase q ∧ (s.chasePhase q).seq.outputs.grant = true
      ∧ (s.chasePhase q).seq.outputs.pinchDown = (q == .rolling) ∧ (s.chasePhase q).arb = s.arb
      ∧ (s.chasePhase q).ports = s.ports ∧ (s.chasePhase q).speed.vRef = s.speed.vRef
      ∧ (s.chasePhase q).locate.active = none ∧ (s.chasePhase q).marks = s.marks
      ∧ ∀ r, s.locate.active = some r → (s.chasePhase q).locate.result = some (s.resultOf r .replaced) := by
  have down : (s.chasePhase q).seq.outputs.pinchDown = (q == .rolling) := by rcases hq with rfl | rfl <;> rfl
  have handed := setTransport_handedOn (u := s.endLocate .replaced) (new := .chase q) none rfl
  exact ⟨rfl, rfl, down, handed.arb.trans (endLocate_arb ..), handed.ports.trans (endLocate_ports ..),
    handed.vRef.trans (by rw [endLocate_speed]), endLocate_active .., handed.marks.trans (endLocate_marks ..),
    fun r hr => endLocate_result .replaced hr⟩

/-- PLAY moves the chase to ROLLING, STOP to PARKED, from the phases that R98 names. -/
theorem studioInChase_moves_phase {s : State} {p q : ChasePhase} {req : MotionReq}
    (h : (req = .stop ∧ q = .parked ∧ (p = .rolling ∨ ∃ k, p = .locating k))
      ∨ (req = .play ∧ q = .rolling ∧ (p = .locating .approach ∨ p = .locating .verify
        ∨ (p = .parked ∧ 0 ≤ s.speed.vRef ∧ s.speed.vRef ≤ capstanTarget s.ports.params s.speed.chaseRatio)))) :
    s.studioInChase p (freshHeld .studio req) = (s.chasePhase q, .ok) := by
  rcases h with ⟨rfl, rfl, rfl | ⟨k, rfl⟩⟩ | ⟨rfl, rfl, rfl | rfl | ⟨rfl, lo, hi⟩⟩
  · rfl
  · rfl
  · rfl
  · rfl
  · have within : ¬(s.speed.vRef < 0 ∨ capstanTarget s.ports.params s.speed.chaseRatio < s.speed.vRef) := by omega
    simp [State.studioInChase, freshHeld, State.chasePlay, within]

/-- PLAY is BUSY in RELEASING, in the reel-driven phases of a locate, and in PARKED outside the capstan's reach (R98). -/
theorem studioInChase_play_busy {s : State} {p : ChasePhase}
    (h : p = .releasing ∨ p = .locating .travel ∨ p = .locating .reposition
      ∨ (p = .parked ∧ (s.speed.vRef < 0 ∨ capstanTarget s.ports.params s.speed.chaseRatio < s.speed.vRef))) :
    s.studioInChase p (freshHeld .studio .play) = (s, .busy) := by
  rcases h with rfl | rfl | rfl | ⟨rfl, outside⟩
  · rfl
  · rfl
  · rfl
  · simp [State.studioInChase, freshHeld, State.chasePlay, outside]

/-- The push of a locate touches the return list and the flags alone (R103). -/
theorem pushReturn_arb (s : State) (req : MotionReq) :
    (s.pushReturn req).arb = { s.arb with returns := (s.pushReturn req).arb.returns } := by
  unfold State.pushReturn
  split
  · rw [raiseIf_arb]
    rfl
  · rfl

theorem startLocate_result (u : State) (inChase : Bool) (target : LocateTarget) :
    (u.startLocate inChase target).locate.result = u.locate.result := by
  unfold State.startLocate State.choosePhase
  split <;> rfl

/-- A studio locate by length in a chase travels to its stopping point over whatever locate stands (R98, R103, R171). -/
theorem chaseLocate_length (s : State) (l : Int) :
    ∃ t, s.chaseLocate (freshHeld .studio (.locateLength l)) = (t, .ok) ∧ t.seq.transport = .chase (.locating .travel)
      ∧ t.arb = { s.arb with returns := t.arb.returns } ∧ t.speed.vRef = s.speed.vRef ∧ t.marks = s.marks
      ∧ (∃ r, t.locate.active = some r ∧ r.target = .length l ∧ r.retries = 0
        ∧ t.speed.stopPoint = some r.stopPoint)
      ∧ ∀ x, s.locate.active = some x → t.locate.result = some (s.resultOf x .replaced) := by
  obtain ⟨u, hu⟩ : ∃ u, u = (s.endLocate .replaced).pushReturn (.locateLength l) := ⟨_, rfl⟩
  have handed := startLocate_handedOn (u := u) true (.length l)
  obtain ⟨travel, point⟩ := startLocate_travels u true (target := .length l) rfl
  have record : u.freshRecord (.length l) = _ := freshRecord_of_aim rfl
  have arb := pushReturn_arb (s.endLocate .replaced) (.locateLength l)
  rw [← hu, endLocate_arb] at arb
  refine ⟨u.startLocate true (.length l), by rw [hu]; rfl, travel, ?_, ?_, ?_,
    ⟨_, startLocate_record .., by rw [record], by rw [record], point⟩, fun x hx => ?_⟩
  · rw [handed.arb]
    exact arb
  · rw [handed.vRef, hu, pushReturn_speed, endLocate_speed]
  · rw [handed.marks, hu, pushReturn_marks, endLocate_marks]
  · rw [startLocate_result, hu, pushReturn_locate, endLocate_result .replaced hx]

/-- Settles O53: the fall by the protocol state, then the studio's requests by the phase. -/
theorem chaseReleasedAndDrivenByStudio : Obligations.ChaseReleasedAndDrivenByStudio := by
  refine ⟨fun s hc => ⟨fun low => ?_,
      fun high => ⟨fun hor => ?_, fun starting halting => ?_, fun granted chase => ?_⟩⟩,
    fun s hl => ⟨fun ratio outside => motion_badState rfl outside, fun halting starting => ?_, fun p ht => ?_⟩⟩
  · rw [exec_chaseRequestFall hc, low]
    rfl
  · rw [exec_chaseRequestFall_high hc high, State.chaseFall, setChaseLine_chase]
    rcases hor with e | e <;> rw [e] <;> rfl
  · rw [exec_chaseRequestFall_high hc high, State.chaseFall, setChaseLine_chase, starting]
    exact ⟨_, rfl, rfl, rfl, rfl, setTransport_speed_same (s := s.setChaseLine false) (some .stopped) halting, rfl⟩
  · rw [exec_chaseRequestFall_high hc high, State.chaseFall, setChaseLine_chase, granted]
    obtain ⟨releasing, arb, grant, active, located, ports, result⟩ := startRelease_spec (s.setChaseLine false)
    exact ⟨_, rfl, releasing, arb, grant, active, located, ports,
      fun follows before => startRelease_rows (s := s.setChaseLine false) follows before, result⟩
  · have busy {req : MotionReq} (ho : s.operandTest req = none) (hv : req.validIn .halting = true) (hs : req ≠ .stop)
        (hr : req ≠ .returnBack) : s.motion .studio req = (s, .busy) := by
      rw [motion_judged (by rw [halting]; exact hv) (by rw [halting]; rfl) hl ho hr]
      simp [State.judge, halting, starting, freshHeld, hs, State.judgeStarting]
    exact ⟨busy rfl rfl (by simp) (by simp),
      fun v => ⟨busy rfl rfl (by simp) (by simp), busy rfl rfl (by simp) (by simp)⟩,
      fun l lo hi => busy (operandTest_locateLength lo hi) rfl (by simp) (by simp)⟩
  · have locates (l : Int) (lo : -8388608 ≤ l) (hi : l ≤ 8388607) : s.motion .studio (.locateLength l)
        = s.studioInChase p (freshHeld .studio (.locateLength l)) :=
      motion_studio_chase ht hl rfl rfl (operandTest_locateLength lo hi) (by simp)
    have plays : s.motion .studio .play = s.studioInChase p (freshHeld .studio .play) :=
      motion_studio_chase ht hl rfl rfl rfl (by simp)
    have stops : s.motion .studio .stop = s.studioInChase p (freshHeld .studio .stop) :=
      motion_studio_chase ht hl rfl rfl rfl (by simp)
    refine ⟨fun ratio => ?_, fun v => ?_, fun hp => ?_, fun hp => ?_, fun hp => ?_,
      fun l lo hi => ⟨fun hp => ?_, fun hp => ?_⟩, fun req q hreq => ?_⟩
    · have speeds : s.motion .studio (.chaseSpeed ratio) = s.chaseSpeed ratio :=
        motion_studio_chase ht hl rfl rfl rfl (by simp)
      rw [speeds, chaseSpeed_eq]
      refine ⟨_, rfl, rfl, fun inside => ?_, fun outside k => ?_⟩
      · simp [inside, State.raiseIf]
      · simp [raiseIf_has, outside]
    · by_cases hp : p = .releasing
      · subst hp
        have busy {req : MotionReq} (hreq : req = .wind v ∨ req = .shuttle v) : s.motion .studio req = (s, .busy) := by
          rcases hreq with rfl | rfl
          · exact motion_studio_chase ht hl rfl rfl rfl (by simp)
          · exact motion_studio_chase ht hl rfl rfl rfl (by simp)
        exact ⟨busy (.inl rfl), busy (.inr rfl)⟩
      · rw [if_neg hp]
        exact ⟨motion_studio_refused ht hp ⟨v, .inl rfl⟩, motion_studio_refused ht hp ⟨v, .inr rfl⟩⟩
    · rw [stops]
      rcases hp with rfl | rfl <;> rfl
    · rw [plays, hp]
      rfl
    · rw [plays]
      exact studioInChase_play_busy hp
    · rw [locates l lo hi, hp]
      rfl
    · have goes : s.studioInChase p (freshHeld .studio (.locateLength l))
          = s.chaseLocate (freshHeld .studio (.locateLength l)) := if_neg hp
      rw [locates l lo hi, goes]
      exact chaseLocate_length s l
    · obtain ⟨phase, grant, down, arb, ports, vRef, active, marks, result⟩ := chasePhase_spec s (q := q) (by
        rcases hreq with ⟨-, e, -⟩ | ⟨-, e, -⟩ <;> simp [e])
      have moved := studioInChase_moves_phase hreq
      have judged : s.motion .studio req = s.studioInChase p (freshHeld .studio req) := by
        rcases hreq with ⟨rfl, -⟩ | ⟨rfl, -⟩
        · exact stops
        · exact plays
      exact ⟨_, judged.trans moved, phase, grant, down, arb, ports, vRef, active, marks, result⟩

end Sys2Proof.Machine

/-! # The tape map family

The invariant of the span list first, then the order of raised events, FORGET_MAP, the accepted report as a command, and
what the learning of one report does to a list of one or two spans and to a full one. -/

namespace Sys2Proof.Machine

/-! ## The form of the span list (R109, R110, R117) -/

/-- One span in its own form (R109, R110). -/
def Span.InForm (p : Span) : Prop :=
  p.startLen ≤ p.lastLen ∧ p.num < Config.maxSpans ∧ 39936 ≤ p.pitch ∧ p.pitch ≤ 41984

/-- Two spans as the list holds them, the first before the second (R110, R117). -/
def Span.Precedes (p q : Span) : Prop :=
  p.lastLen < q.startLen ∧ p.num ≠ q.num ∧ ¬(p.isOpen = true ∧ q.isOpen = true)

theorem spansWellFormed_iff {spans : List Span} :
    SpansWellFormed spans ↔ (∀ p ∈ spans, p.InForm) ∧ spans.Pairwise Span.Precedes := by
  unfold SpansWellFormed Span.Precedes
  rw [List.pairwise_and_iff, List.pairwise_and_iff]
  rfl

theorem SpansWellFormed.sublist {l l' : List Span} (h : SpansWellFormed l) (hs : l'.Sublist l) :
    SpansWellFormed l' := by
  obtain ⟨form, order⟩ := spansWellFormed_iff.mp h
  exact spansWellFormed_iff.mpr ⟨fun p hp => form p (hs.subset hp), order.sublist hs⟩

theorem SpansWellFormed.filter {l : List Span} (h : SpansWellFormed l) (f : Span → Bool) :
    SpansWellFormed (l.filter f) :=
  h.sublist List.filter_sublist

/-- Two spans of the list that differ hold different numbers. -/
theorem SpansWellFormed.num_ne {l : List Span} (h : SpansWellFormed l) {p q : Span} (hp : p ∈ l) (hq : q ∈ l)
    (hne : p ≠ q) : p.num ≠ q.num := by
  have symm : Std.Symm fun p q : Span => p.num ≠ q.num := ⟨fun _ _ => Ne.symm⟩
  obtain ⟨-, -, numbers, -⟩ := h
  exact numbers.forall hp hq hne

/-! ### Closing the OPEN span (R121) -/

/-- A span as it stands once the OPEN one is closed. -/
def Span.closedBy (kind : EdgeKind) (g : Option SpanEdge) (p : Span) : Span :=
  if p.isOpen then p.closeWith kind g else p

theorem Span.closedBy_eq (kind : EdgeKind) (g : Option SpanEdge) (p : Span) :
    p.closedBy kind g
      = if p.isOpen then
          { p with
            isOpen := false
            startKind := if g = some .start then kind else p.startKind
            lastKind := if g = some .last then kind else p.lastKind }
        else p := by
  match g with
  | none | some .start | some .last => rfl

/-- Closing writes a span's state and its edge kinds alone. -/
theorem Span.closedBy_fields (kind : EdgeKind) (g : Option SpanEdge) (p : Span) :
    (p.closedBy kind g).startLen = p.startLen ∧ (p.closedBy kind g).lastLen = p.lastLen
      ∧ (p.closedBy kind g).num = p.num ∧ (p.closedBy kind g).pitch = p.pitch
      ∧ (p.closedBy kind g).isOpen = false := by
  by_cases h : p.isOpen = true <;> simp [Span.closedBy_eq, h]

theorem openSpan_eq_none_iff {m : MapUnit} : m.openSpan = none ↔ ∀ p ∈ m.spans, p.isOpen = false := by
  simp [MapUnit.openSpan]

theorem openSpan_isSome_iff {m : MapUnit} : m.openSpan.isSome = true ↔ ∃ p ∈ m.spans, p.isOpen = true := by
  simp [MapUnit.openSpan]

theorem mem_of_openSpan {m : MapUnit} {p : Span} (h : m.openSpan = some p) : p ∈ m.spans ∧ p.isOpen = true :=
  ⟨List.mem_of_find?_eq_some h, by simpa using List.find?_some h⟩

/-- Nothing closes in a list without an OPEN span. -/
theorem closeOpen_of_closed {m : MapUnit} (h : ∀ p ∈ m.spans, p.isOpen = false) (kind : EdgeKind) :
    m.closeOpen kind = m := by
  simp only [MapUnit.closeOpen, openSpan_eq_none_iff.mpr h]

theorem closeOpen_spans (m : MapUnit) (kind : EdgeKind) :
    (m.closeOpen kind).spans = m.spans.map (Span.closedBy kind m.growing) := by
  unfold MapUnit.closeOpen
  split
  · next h =>
    have same : ∀ p ∈ m.spans, p.closedBy kind m.growing = p := fun p hp =>
      if_neg (by simp [openSpan_eq_none_iff.mp h p hp])
    rw [List.map_congr_left same, List.map_id']
  · rfl

theorem closeOpen_closed (m : MapUnit) (kind : EdgeKind) : ∀ p ∈ (m.closeOpen kind).spans, p.isOpen = false := by
  rw [closeOpen_spans]
  intro p hp
  obtain ⟨q, -, rfl⟩ := List.mem_map.mp hp
  exact (Span.closedBy_fields kind m.growing q).2.2.2.2

theorem SpansWellFormed.closeOpen {m : MapUnit} (h : SpansWellFormed m.spans) (kind : EdgeKind) :
    SpansWellFormed (m.closeOpen kind).spans := by
  obtain ⟨form, order⟩ := spansWellFormed_iff.mp h
  rw [closeOpen_spans]
  refine spansWellFormed_iff.mpr ⟨fun p hp => ?_, List.pairwise_map.mpr (order.imp fun {p q} hpq => ?_)⟩
  · obtain ⟨q, hq, rfl⟩ := List.mem_map.mp hp
    obtain ⟨start, last, num, pitch, -⟩ := Span.closedBy_fields kind m.growing q
    unfold Span.InForm
    rw [start, last, num, pitch]
    exact form q hq
  · obtain ⟨-, last, num, -, closed⟩ := Span.closedBy_fields kind m.growing p
    obtain ⟨start, -, num', -⟩ := Span.closedBy_fields kind m.growing q
    unfold Span.Precedes
    rw [last, num, closed, start, num']
    exact ⟨hpq.1, hpq.2.1, by simp⟩

/-! ### Numbers and pitches (R109, R110, R113) -/

/-- A free number is in range and held by no span of the list. -/
theorem freeNum_spec {l : List Span} {n : Nat} (h : freeNum l = some n) :
    n < Config.maxSpans ∧ ∀ q ∈ l, q.num ≠ n := by
  have free := List.find?_some h
  simp only [Bool.not_eq_true', List.any_eq_false, beq_iff_eq] at free
  exact ⟨List.mem_range.mp (List.mem_of_find?_eq_some h), free⟩

theorem clampPitch_range (x : Int) : 39936 ≤ clampPitch x ∧ clampPitch x ≤ 41984 := clampTo_bounds (by decide) x

/-- A pitch stays in its range when an extension refines it (R113). -/
theorem refinePitch_range {p : Span} (h : p.InForm) (r far : Stamp) :
    39936 ≤ p.refinePitch r far ∧ p.refinePitch r far ≤ 41984 := by
  unfold Span.refinePitch
  split
  · exact clampPitch_range _
  · exact h.2.2

/-- Taking a report keeps a span's form, its number and its state (R113). -/
theorem take_form {p : Span} (h : p.InForm) (g : Option SpanEdge) (r : Stamp) :
    (p.take g r).1.InForm ∧ (p.take g r).1.num = p.num ∧ (p.take g r).1.isOpen = p.isOpen := by
  obtain ⟨order, num, pitch⟩ := h
  have counted : ({ p with anchors := capAnchors (p.anchors + 1) } : Span).InForm := ⟨order, num, pitch⟩
  unfold Span.take
  dsimp only
  split
  · next past => exact ⟨⟨order.trans past.le, num, refinePitch_range counted _ _⟩, rfl, rfl⟩
  · split
    · next before => exact ⟨⟨before.le.trans order, num, refinePitch_range counted _ _⟩, rfl, rfl⟩
    · exact ⟨counted, rfl, rfl⟩

/-! ### Overlap resolution (R117 to R120) -/

/-- The OPEN span, the neighbours resolved and those still to come, as an overlap resolution holds them: the neighbours
CLOSED and in the list's form, none with the OPEN span's number, and none resolved that shares length with it. -/
structure Standing (p : Span) (done rest : List Span) : Prop where
  own : p.InForm
  opened : p.isOpen = true
  form : ∀ q ∈ done ++ rest, q.InForm ∧ q.isOpen = false ∧ q.num ≠ p.num
  order : (done ++ rest).Pairwise Span.Precedes
  apart : ∀ q ∈ done, q.lastLen < p.startLen ∨ p.lastLen < q.startLen

/-- An OPEN span against a list of CLOSED ones with other numbers. -/
theorem Standing.start {p : Span} {l : List Span} (own : p.InForm) (opened : p.isOpen = true) (h : SpansWellFormed l)
    (closed : ∀ q ∈ l, q.isOpen = false) (num : ∀ q ∈ l, q.num ≠ p.num) : Standing p [] l := by
  obtain ⟨form, order⟩ := spansWellFormed_iff.mp h
  exact ⟨own, opened, fun q hq => ⟨form q hq, closed q hq, num q hq⟩, order, by simp⟩

section Standing

variable {p q x : Span} {done rest : List Span}

/-- The next neighbour lies between those resolved and those still to come. -/
theorem Standing.between (h : Standing p done (q :: rest)) :
    (∀ d ∈ done, d.Precedes q) ∧ ∀ k ∈ rest, q.Precedes k := by
  obtain ⟨-, later, across⟩ := List.pairwise_append.mp h.order
  exact ⟨fun d hd => across d hd q (by simp), fun _ => List.rel_of_pairwise_cons later⟩

/-- A neighbour leaves the list. -/
theorem Standing.drop (h : Standing p done (q :: rest)) : Standing p done rest :=
  have sub : (done ++ rest).Sublist (done ++ q :: rest) := List.Sublist.append_left (List.sublist_cons_self q rest) done
  ⟨h.own, h.opened, fun k hk => h.form k (sub.subset hk), h.order.sublist sub, h.apart⟩

/-- A part of a neighbour, or the neighbour itself, enters behind those resolved. -/
theorem Standing.add (h : Standing p done rest) (form : x.InForm) (closed : x.isOpen = false) (num : x.num ≠ p.num)
    (apart : x.lastLen < p.startLen ∨ p.lastLen < x.startLen) (before : ∀ d ∈ done, d.Precedes x)
    (after : ∀ k ∈ rest, x.Precedes k) : Standing p (done ++ [x]) rest := by
  obtain ⟨first, later, across⟩ := List.pairwise_append.mp h.order
  refine ⟨h.own, h.opened, fun k hk => ?_, ?_, fun k hk => ?_⟩
  · rcases List.mem_append.mp (List.append_cons done x rest ▸ hk) with hk | hk
    · exact h.form k (List.mem_append_left _ hk)
    · rcases List.mem_cons.mp hk with rfl | hk
      · exact ⟨form, closed, num⟩
      · exact h.form k (List.mem_append_right _ hk)
  · rw [← List.append_cons]
    refine List.pairwise_append.mpr ⟨first, List.pairwise_cons.mpr ⟨after, later⟩, fun d hd k hk => ?_⟩
    rcases List.mem_cons.mp hk with rfl | hk
    · exact before d hd
    · exact across d hd k hk
  · rcases List.mem_append.mp hk with hk | hk
    · exact h.apart k hk
    · rw [List.mem_singleton.mp hk]
      exact apart

theorem mergedPitch_range (c : Prop) [Decidable c] (x : Int) :
    39936 ≤ (if c then clampPitch x else nominalPitch) ∧ (if c then clampPitch x else nominalPitch) ≤ 41984 := by
  split
  · exact clampPitch_range x
  · exact ⟨by decide, by decide⟩

/-- The merged span holds exactly the lengths of the two and between them, under one of their numbers (R118). -/
theorem mergeSpans_fields (p q : Span) :
    (mergeSpans p q).startLen = min p.startLen q.startLen ∧ (mergeSpans p q).lastLen = max p.lastLen q.lastLen
      ∧ ((mergeSpans p q).num = p.num ∨ (mergeSpans p q).num = q.num)
      ∧ (39936 ≤ (mergeSpans p q).pitch ∧ (mergeSpans p q).pitch ≤ 41984) ∧ (mergeSpans p q).isOpen = true := by
  refine ⟨?_, ?_, ?_, mergedPitch_range .., rfl⟩ <;> simp only [mergeSpans]
  · split <;> omega
  · split <;> split <;> omega
  · split <;> simp

theorem shares_iff : p.shares q = true ↔ p.startLen ≤ q.lastLen ∧ q.startLen ≤ p.lastLen := by
  simp [Span.shares]

/-- A merge (R118): whatever stands resolved lies before both spans, or after the OPEN one. -/
theorem Standing.merge (h : Standing p done (q :: rest)) (hs : p.shares q = true) :
    Standing (mergeSpans p q) done rest := by
  obtain ⟨start, last, num, pitch, opened⟩ := mergeSpans_fields p q
  obtain ⟨before, after⟩ := h.between
  obtain ⟨⟨hq, qnum, -⟩, -, -⟩ := h.form q (by simp)
  obtain ⟨hp, pnum, -⟩ := h.own
  obtain ⟨share, share'⟩ := shares_iff.mp hs
  refine ⟨⟨by rw [start, last]; omega, by rcases num with e | e <;> rw [e] <;> assumption, pitch⟩, opened,
    fun k hk => ?_, h.drop.order, fun d hd => ?_⟩
  · obtain ⟨form, closed, other⟩ := h.drop.form k hk
    refine ⟨form, closed, ?_⟩
    rcases num with e | e <;> rw [e]
    · exact other
    · rcases List.mem_append.mp hk with hk | hk
      · exact (before k hk).2.1
      · exact (after k hk).2.1.symm
  · rw [start, last]
    have := (before d hd).1
    have := h.apart d hd
    have := (h.form d (List.mem_append_left _ hd)).1.1
    omega

end Standing

/-- A kept part enters when it is long enough, and nothing does otherwise (R119). -/
theorem Standing.keep {w : Resolving} {rest : List Span} {x : Span} (h : Standing w.span w.done rest)
    (form : x.longEnough = true → x.InForm) (closed : x.isOpen = false) (num : x.num ≠ w.span.num)
    (apart : x.lastLen < w.span.startLen ∨ w.span.lastLen < x.startLen) (before : ∀ d ∈ w.done, d.Precedes x)
    (after : ∀ k ∈ rest, x.Precedes k) :
    Standing (w.keep x).span (w.keep x).done rest := by
  unfold Resolving.keep
  split
  · next long => exact h.add (form long) closed num apart before after
  · exact h

/-- The upper part of a split enters under its free number when it is long enough and there is one (R120). -/
theorem Standing.keepUpper {w : Resolving} {rest : List Span} {x : Span} (h : Standing w.span w.done rest)
    (form : x.longEnough = true → x.InForm) (apart : w.span.lastLen < x.startLen)
    (before : ∀ d ∈ w.done, d.lastLen < x.startLen) (after : ∀ k ∈ rest, x.lastLen < k.startLen) :
    Standing (w.keepUpper rest x).span (w.keepUpper rest x).done rest := by
  unfold Resolving.keepUpper
  split
  · next n free long =>
    obtain ⟨lt, other⟩ := freeNum_spec free
    obtain ⟨order, -, pitch⟩ := form long
    refine h.add ⟨order, lt, pitch⟩ rfl (other _ (by simp)).symm (.inr apart)
      (fun d hd => ⟨before d hd, other d (by simp [hd]), by simp⟩)
      (fun k hk => ⟨after k hk, (other k (by simp [hk])).symm, by simp⟩)
  · exact h
  · exact h

theorem keep_span (w : Resolving) (x : Span) : (w.keep x).span = w.span := by
  unfold Resolving.keep
  split <;> rfl

theorem mem_keep_done {w : Resolving} {x d : Span} (h : d ∈ (w.keep x).done) : d ∈ w.done ∨ d = x := by
  unfold Resolving.keep at h
  split at h
  · simpa using h
  · exact .inl h

theorem longEnough_iff {x : Span} : x.longEnough = true ↔ 80 ≤ x.lastLen - x.startLen := by
  simp [Span.longEnough]

section Parts

variable {w : Resolving} {rest : List Span} {q : Span} (h : Standing w.span w.done (q :: rest))
include h

/-- The part that a cut leaves before the OPEN span (R119, R120). -/
theorem Standing.keepCutLast (reach : w.span.startLen ≤ q.lastLen) :
    Standing (w.keep (q.cutLast w.span)).span (w.keep (q.cutLast w.span)).done rest := by
  obtain ⟨before, after⟩ := h.between
  obtain ⟨⟨-, num, pitch⟩, closed, other⟩ := h.form q (by simp)
  have last : (q.cutLast w.span).lastLen = w.span.startLen - 1 := rfl
  refine h.drop.keep (fun long => ⟨?_, num, pitch⟩) closed other (.inl (by omega)) before (fun k hk => ?_)
  · have := longEnough_iff.mp long
    omega
  · obtain ⟨lt, ne⟩ := after k hk
    exact ⟨by omega, ne⟩

/-- The part that a cut leaves after the OPEN span (R119). -/
theorem Standing.keepCutStart (reach : q.startLen ≤ w.span.lastLen) :
    Standing (w.keep (q.cutStart w.span)).span (w.keep (q.cutStart w.span)).done rest := by
  obtain ⟨before, after⟩ := h.between
  obtain ⟨⟨-, num, pitch⟩, closed, other⟩ := h.form q (by simp)
  have start : (q.cutStart w.span).startLen = w.span.lastLen + 1 := rfl
  refine h.drop.keep (fun long => ⟨?_, num, pitch⟩) closed other (.inr (by omega)) (fun d hd => ?_) after
  · have := longEnough_iff.mp long
    omega
  · obtain ⟨lt, ne⟩ := before d hd
    exact ⟨by omega, ne⟩

/-- Both parts of a split (R120). -/
theorem Standing.split (first : q.startLen < w.span.startLen) (last : w.span.lastLen < q.lastLen) :
    Standing ((w.keep (q.cutLast w.span)).keepUpper rest (q.cutStart w.span)).span
      ((w.keep (q.cutLast w.span)).keepUpper rest (q.cutStart w.span)).done rest := by
  obtain ⟨before, after⟩ := h.between
  obtain ⟨⟨-, num, pitch⟩, -, -⟩ := h.form q (by simp)
  obtain ⟨own, -⟩ := h.own
  have lower : (q.cutLast w.span).lastLen = w.span.startLen - 1 := rfl
  have upper : (q.cutStart w.span).startLen = w.span.lastLen + 1 := rfl
  refine (h.keepCutLast (by omega)).keepUpper (fun long => ⟨?_, num, pitch⟩) (by rw [keep_span]; omega) (fun d hd => ?_)
    (fun k hk => (after k hk).1)
  · have := longEnough_iff.mp long
    omega
  · rcases mem_keep_done hd with hd | rfl
    · have := (before d hd).1
      omega
    · omega

/-- One neighbour resolved: left, merged, cut, split or removed (R117). -/
theorem Standing.step : Standing (w.step rest q).span (w.step rest q).done rest := by
  unfold Resolving.step
  dsimp only
  split
  · next apart =>
    obtain ⟨before, after⟩ := h.between
    obtain ⟨form, closed, other⟩ := h.form q (by simp)
    have shares : ¬w.span.shares q = true := by simpa using apart
    exact h.drop.add form closed other (by rw [shares_iff] at shares; omega) before after
  · next share =>
    have share : w.span.shares q = true := by simpa using share
    obtain ⟨reach, reach'⟩ := shares_iff.mp share
    split
    · exact h.merge share
    · split
      · next first =>
        split
        · next last => exact h.split first last
        · exact h.keepCutLast reach
      · split
        · exact h.keepCutStart reach'
        · exact h.drop

end Parts

/-- Every neighbour resolved (R117). -/
theorem Standing.run {w : Resolving} {l : List Span} (h : Standing w.span w.done l) :
    Standing (w.run l).span (w.run l).done [] := by
  induction l generalizing w with
  | nil => exact h
  | cons q rest ih => exact ih h.step

/-! ### The resolved list (R110) -/

theorem mem_insertSpan {p q : Span} {l : List Span} : q ∈ insertSpan p l ↔ q = p ∨ q ∈ l := by
  induction l with
  | nil => simp [insertSpan]
  | cons k rest ih =>
    unfold insertSpan
    split
    · simp
    · rw [List.mem_cons, ih, List.mem_cons]
      tauto

/-- A span put in its place keeps the order when it shares no length and no number with the rest. -/
theorem insertSpan_pairwise {p : Span} {l : List Span} (hl : l.Pairwise Span.Precedes)
    (hp : ∀ q ∈ l, p.startLen ≤ q.startLen ∧ p.Precedes q ∨ q.startLen < p.startLen ∧ q.Precedes p)
    (order : ∀ q ∈ l, q.startLen ≤ q.lastLen) : (insertSpan p l).Pairwise Span.Precedes := by
  induction l with
  | nil => simp [insertSpan]
  | cons k rest ih =>
    obtain ⟨first, later⟩ := List.pairwise_cons.mp hl
    unfold insertSpan
    split
    · next le =>
      refine List.pairwise_cons.mpr ⟨fun q hq => ?_, hl⟩
      rcases hp q hq with ⟨-, pre⟩ | ⟨lt, -⟩
      · exact pre
      · rcases List.mem_cons.mp hq with rfl | hq
        · omega
        · have := (first q hq).1
          have := order k (by simp)
          omega
    · next gt =>
      refine List.pairwise_cons.mpr
        ⟨fun q hq => ?_, ih later (fun q hq => hp q (by simp [hq])) (fun q hq => order q (by simp [hq]))⟩
      rcases mem_insertSpan.mp hq with rfl | hq
      · rcases hp k (by simp) with ⟨le, -⟩ | ⟨-, pre⟩
        · exact absurd le gt
        · exact pre
      · exact first q hq

/-- The OPEN span put back among its resolved neighbours gives a list in form. -/
theorem Standing.wellFormed {p : Span} {l : List Span} (h : Standing p l []) : SpansWellFormed (insertSpan p l) := by
  have form : ∀ q ∈ l, q.InForm ∧ q.isOpen = false ∧ q.num ≠ p.num := fun q hq => h.form q (by simp [hq])
  refine spansWellFormed_iff.mpr ⟨fun q hq => ?_, insertSpan_pairwise (by simpa using h.order) (fun q hq => ?_)
    (fun q hq => (form q hq).1.1)⟩
  · rcases mem_insertSpan.mp hq with rfl | hq
    · exact h.own
    · exact (form q hq).1
  · obtain ⟨⟨order, -⟩, closed, num⟩ := form q hq
    have := h.own.1
    rcases h.apart q hq with before | after
    · exact .inr ⟨by omega, before, num, by simp [closed]⟩
    · exact .inl ⟨by omega, after, num.symm, by simp [closed]⟩

/-! ### The four cases (R112) -/

/-- The OPEN span takes a report against CLOSED neighbours with other numbers (R113, R117). -/
theorem openTakes_wellFormed (m : MapUnit) {p : Span} {others : List Span} (g : Option SpanEdge) (r : Stamp)
    (h : Standing p [] others) : SpansWellFormed (m.openTakes p g others r).map.spans := by
  obtain ⟨form, num, opened⟩ := take_form h.own g r
  have start : Standing (p.take g r).1 [] others :=
    ⟨form, opened.trans h.opened, by rw [num]; exact h.form, h.order, by simp⟩
  exact (Standing.run start).wellFormed

/-- The CLOSED neighbours of the OPEN span (R112 case 1). -/
theorem closed_standing {m : MapUnit} (h : SpansWellFormed m.spans) {p : Span} (hp : p ∈ m.spans)
    (opened : p.isOpen = true) : Standing p [] m.closed := by
  have closed : ∀ q ∈ m.closed, q ∈ m.spans ∧ q.isOpen = false := fun q hq => by simpa using List.mem_filter.mp hq
  refine .start ((spansWellFormed_iff.mp h).1 p hp) opened (h.filter _) (fun q hq => (closed q hq).2) (fun q hq => ?_)
  obtain ⟨mem, state⟩ := closed q hq
  exact h.num_ne mem hp (by rintro rfl; rw [opened] at state; cases state)

theorem reopen_wellFormed {m : MapUnit} (h : SpansWellFormed m.spans) {q : Span} (hq : q.InForm) (r : Stamp) :
    SpansWellFormed (m.reopen q r).map.spans :=
  openTakes_wellFormed _ none r (.start hq rfl ((h.closeOpen _).filter _)
    (fun k hk => closeOpen_closed m .jump k (List.mem_filter.mp hk).1)
    (fun k hk => by simpa using (List.mem_filter.mp hk).2))

/-- The kinds of the edges stand outside the list's form. -/
theorem Standing.setKinds {p created : Span} {l others : List Span} (h : Standing p l []) :
    Standing (p.setKinds created others) l [] := ⟨h.own, h.opened, h.form, h.order, h.apart⟩

theorem newSpan_inForm {n : Nat} (hn : n < Config.maxSpans) (c r : Stamp) : (newSpan n c r).InForm := by
  have pitch : (newSpan n c r).pitch = 40960 := rfl
  refine ⟨?_, hn, by omega, by omega⟩
  simp only [newSpan]
  split <;> omega

/-- A new span among the CLOSED ones (R116). -/
theorem create_wellFormed {m : MapUnit} (h : SpansWellFormed m.spans) (c r : Stamp) (changes : List Change) :
    SpansWellFormed (m.create c r changes).map.spans := by
  unfold MapUnit.create
  dsimp only
  split
  · exact h.closeOpen _
  · next n free =>
    obtain ⟨lt, other⟩ := freeNum_spec free
    have start : Standing (newSpan n c r) [] (m.closeOpen .jump).spans :=
      .start (newSpan_inForm lt c r) rfl (h.closeOpen _) (closeOpen_closed m .jump) other
    exact (Standing.run start).setKinds.wellFormed

theorem createOrFull_wellFormed {m : MapUnit} (h : SpansWellFormed m.spans) (held : Nat → Bool) (head : Int)
    (c r : Stamp) : SpansWellFormed (m.createOrFull held head c r).map.spans := by
  unfold MapUnit.createOrFull
  split
  · exact create_wellFormed h c r _
  · split
    · exact h
    · exact create_wellFormed (h.filter _) c r _

/-- The span chosen over a list by a fold that keeps one of its members. -/
theorem foldl_choice_mem {f : Option Span → Span → Option Span} (hf : ∀ b q p, f b q = some p → p = q ∨ b = some p)
    {l : List Span} {b : Option Span} {p : Span} (h : l.foldl f b = some p) : p ∈ l ∨ b = some p := by
  induction l generalizing b with
  | nil => exact .inr h
  | cons q rest ih =>
    rcases ih h with h | h
    · exact .inl (by simp [h])
    · rcases hf b q p h with rfl | h
      · exact .inl (by simp)
      · exact .inr h

theorem betterCover_eq {l : Int} {b : Option Span} {q p : Span} (h : betterCover l b q = some p) :
    p = q ∨ b = some p := by
  unfold betterCover at h
  split at h
  · exact .inl (by simpa using h.symm)
  · split at h
    · exact .inl (by simpa using h.symm)
    · exact .inr h

theorem mem_of_covering {m : MapUnit} {r : Stamp} {q : Span} (h : m.covering r = some q) : q ∈ m.spans := by
  rcases foldl_choice_mem (fun _ _ _ => betterCover_eq) h with h | h
  · exact (List.mem_filter.mp (List.mem_filter.mp h).1).1
  · cases h

/-- Learning keeps the list's form, whichever case takes the report (R112). -/
theorem learn_wellFormed {m : MapUnit} (h : SpansWellFormed m.spans) (held : Nat → Bool) (head : Int) (r : Stamp) :
    SpansWellFormed (m.learn held head r).map.spans := by
  unfold MapUnit.learn
  dsimp only
  split
  · next p taken =>
    obtain ⟨mem, opened⟩ := mem_of_openSpan (Option.eq_some_of_filter_eq_some taken)
    exact openTakes_wellFormed _ _ r (closed_standing h mem opened)
  · split
    · next q covers =>
      have form := (spansWellFormed_iff.mp h).1 q (mem_of_covering covers)
      exact reopen_wellFormed (m := { m with gapCount := 0 }) h form r
    · split
      · exact createOrFull_wellFormed (m := { m with gapCount := 0 }) h ..
      · exact h

/-- A change of state or phase leaves the list or closes its OPEN span (R121). -/
theorem onChange_wellFormed {m : MapUnit} (h : SpansWellFormed m.spans) (old new : Transport) :
    SpansWellFormed (m.onChange old new).spans := by
  unfold MapUnit.onChange
  split
  · exact h.closeOpen _
  · exact h

theorem spansWellFormed_nil : SpansWellFormed [] := spansWellFormed_iff.mpr ⟨by simp, .nil⟩

/-- Every move keeps the span list's form. -/
theorem Move.spansWellFormed {s t : State} (h : Move s t) (hs : SpansWellFormed s.map.spans) :
    SpansWellFormed t.map.spans := by
  cases h with
  | aside h => rw [h.map]; exact hs
  | transport new dest => exact onChange_wellFormed hs _ _
  | learn r => rw [mapEvent_map]; exact learn_wellFormed hs ..
  | flush => rw [mapEvent_map]; exact spansWellFormed_nil
  | countGap b =>
    show SpansWellFormed (s.map.countGap b).spans
    unfold MapUnit.countGap
    split <;> exact hs
  | closeOpen => exact hs.closeOpen _
  | param n row v _ =>
    obtain ⟨-, -, map, -⟩ := writeParam_frame s n (paramStored n row v)
    rw [map]
    exact hs
  | reset l => exact spansWellFormed_nil
  | _ => exact hs

/-- Settles O23: every move keeps the form, learning by what an overlap resolution holds (`Standing`). -/
theorem spansStayWellFormed : Obligations.SpansStayWellFormed :=
  fun s t h => step_keeps (P := fun u => SpansWellFormed u.map.spans) (fun _ _ m => m.spansWellFormed) s t h

/-! ## Raised events (R121, R178, log entries 3, 4 and 14) -/

theorem gapFull_iff {m : MapUnit} : m.gapFull = true ↔ m.gapCount = 320 ∧ ∃ p ∈ m.spans, p.isOpen = true := by
  rw [MapUnit.gapFull, Bool.and_eq_true, decide_eq_true_eq, openSpan_isSome_iff]

theorem gapFull_eq_false {m : MapUnit} (h : m.gapCount ≠ 320 ∨ ∀ p ∈ m.spans, p.isOpen = false) :
    m.gapFull = false := by
  rw [Bool.eq_false_iff, ne_eq, gapFull_iff]
  rintro ⟨full, p, hp, opened⟩
  rcases h with h | h
  · exact h full
  · rw [h p hp] at opened
    cases opened

theorem nextRaised_catch {s : State} (h : Due.extStopCatch ∈ s.due) : s.nextRaised = some .extStopLevelCatch :=
  if_pos (List.contains_iff_mem.mpr h)

/-- With no caught start waiting the oldest raised event is ready. -/
theorem nextRaised_oldest {s : State} (hc : Due.extStopCatch ∉ s.due) {d : Due} {rest : List Due}
    (h : s.due = d :: rest) : s.nextRaised = some d.command := by
  rw [State.nextRaised, if_neg (by simpa using hc), h]

/-- With no event raised the gap count's limit is ready, when it stands there with a span OPEN (R121). -/
theorem nextRaised_none_due {s : State} (h : s.due = []) :
    s.nextRaised = if s.map.gapFull then some .gapCountLimit else none := by
  rw [State.nextRaised, if_neg (by simp [h]), h]

theorem step_of_raised {s : State} (hp : s.pending = []) {c : Instr} (h : s.nextRaised = some c) :
    step s = exec c s := by
  simp only [step, hp, h]

theorem step_idle {s : State} (hp : s.pending = []) (h : s.nextRaised = none) : step s = .next s := by
  simp only [step, hp, h]

/-- Settles O2: the empty queue by what is ready; before a command EXT_STOP_LEVEL_CATCH takes the first of the catches
that the command would take itself. -/
theorem catchThenOldestRaisedEventTaken : Obligations.CatchThenOldestRaisedEventTaken := by
  refine ⟨fun s hp => ⟨fun hc => step_of_raised hp (nextRaised_catch hc),
    fun hc d rest hd => step_of_raised hp (nextRaised_oldest hc hd), fun hd full opened => ?_, fun hd short => ?_⟩,
    fun c s t hc hne hreset ht => ?_⟩
  · exact step_of_raised hp (by rw [nextRaised_none_due hd, if_pos (gapFull_iff.mpr ⟨full, opened⟩)])
  · exact step_idle hp (by rw [nextRaised_none_due hd, gapFull_eq_false short]; rfl)
  · cases ht
    exact exec_takes_catch hne hreset hc

/-! ## FORGET_MAP (R126, R127) -/

/-- A map event writes the flags alone of what the ports hold. -/
theorem mapEvent_ports (s : State) (e : Learned) :
    (s.mapEvent e).ports = { s.ports with
      panel := { s.ports.panel with flags := (s.mapEvent e).ports.panel.flags }
      studio := { s.ports.studio with flags := (s.mapEvent e).ports.studio.flags } } := by
  unfold State.mapEvent State.announce State.raiseIf
  split <;> split <;> (try split) <;> rfl

theorem mapInUse_iff (s : State) :
    s.mapInUse = true ↔ (∃ m, s.arb.active = some m ∧ (m.kind = .locate ∨ m.kind = .chase))
      ∨ s.arb.chase = .starting ∨ s.arb.chase = .granted ∨ s.arb.chase = .releasing := by
  unfold State.mapInUse
  cases s.arb.active <;> simp [or_assoc]

theorem flush_changes_eq_nil_iff {m : MapUnit} : m.flush.changes = [] ↔ m.spans = [] := by
  simp [MapUnit.flush]

/-- Against an empty list every mark is UNRESOLVED (R134). -/
theorem reResolve_nil (changes : List Change) (a : Int) (old : Resolution) :
    reResolve [] changes a old = .unresolved := by
  cases old <;> rfl

/-- A mark falls with the whole map when it was RESOLVED or CONFIRMED (R137). -/
theorem falls_nil (changes : List Change) : Mark.falls [] changes = fun m => m.resolution.place.isSome := by
  funext m
  rw [Mark.falls, reResolve_nil]
  cases m.resolution <;> rfl

theorem forgetMap_refused {s : State} (h : s.mapInUse = true) :
    s.forgetMap = { state := s, status := .busy, results := [] } := by
  rw [State.forgetMap, underTests_one, h]
  rfl

theorem forgetMap_empties {s : State} (h : s.mapInUse = false) :
    s.forgetMap = { state := s.mapEvent s.map.flush, status := .ok, results := [] } := by
  rw [State.forgetMap, underTests_one, h]
  rfl

/-- Settles O27: refused while the map is in use, else the flush as a map event. -/
theorem forgetMapUnlessLocateOrChase : Obligations.ForgetMapUnlessLocateOrChase := by
  refine fun s => ⟨fun hs => forgetMap_refused ((mapInUse_iff s).mpr hs), fun motion chase => ?_⟩
  have free : s.mapInUse = false := by
    rw [Bool.eq_false_iff, ne_eq, mapInUse_iff]
    rintro (⟨m, active, kind⟩ | hc)
    · obtain ⟨notLocate, notChase⟩ := motion m active
      exact kind.elim notLocate notChase
    · rcases chase with e | e | e <;> simp [e] at hc
  refine ⟨_, forgetMap_empties free, mapEvent_map .., fun hne m hm => ?_, mapEvent_marks_records ..,
    by rw [mapEvent_map]; exact mapEvent_eq .., mapEvent_ports .., fun p f => ?_⟩
  · rw [mapEvent_marks, if_neg (flush_changes_eq_nil_iff.not.mpr hne)] at hm
    obtain ⟨k, -, rfl⟩ := List.mem_map.mp hm
    exact reResolve_nil ..
  · have falls : s.marks.any (Mark.falls s.map.flush.map.spans s.map.flush.changes)
        = s.marks.any (fun m => m.resolution.place.isSome) := congrArg s.marks.any (falls_nil _)
    have quiet : s.map.flush.mapFull = false := rfl
    simp only [mapEvent_has, falls, quiet, ne_eq, flush_changes_eq_nil_iff, Bool.and_false, Bool.or_false]

/-! ## The marks at a report (R135, R136, R138) -/

/-- A CONFIRMED mark whose address resolves again (R136). -/
theorem reResolve_confirmed {spans : List Span} {a : Int} {n : Nat} {l : Int} (h : resolve spans a = .resolved n l)
    (changes : List Change) (k : Nat) (x : Int) :
    reResolve spans changes a (.confirmed k x)
      = if successor changes k = some n ∧ mag (l - x) ≤ 40 then .confirmed n l else .resolved n l := by
  simp only [reResolve, h]

/-- Any other mark is resolved afresh (R135). -/
theorem reResolve_afresh {spans : List Span} {a : Int} {old : Resolution}
    (h : (∀ k x, old ≠ .confirmed k x) ∨ ∀ n l, resolve spans a ≠ .resolved n l) (changes : List Change) :
    reResolve spans changes a old = resolve spans a := by
  unfold reResolve
  split
  · next k x n l found => exact h.elim (fun h => absurd rfl (h k x)) (fun h => absurd found (h n l))
  · rfl

theorem confirmedBy_keeps (w : Int) (r : Stamp) (m : Mark) :
    m.confirmedBy w r = { m with resolution := (m.confirmedBy w r).resolution } := by
  unfold Mark.confirmedBy
  split
  · split <;> rfl
  · rfl

theorem confirmedBy_resolved {m : Mark} {n : Nat} {l : Int} (h : m.resolution = .resolved n l) (w : Int) (r : Stamp) :
    (m.confirmedBy w r).resolution
      = if mag (r.address - m.address) ≤ 1 ∧ mag (r.length - l) ≤ w * 40 then .confirmed n l else .resolved n l := by
  simp only [Mark.confirmedBy, h]
  split
  · rfl
  · exact h

theorem confirmedBy_of_not_resolved {m : Mark} (h : ∀ n l, m.resolution ≠ .resolved n l) (w : Int) (r : Stamp) :
    (m.confirmedBy w r).resolution = m.resolution := by
  unfold Mark.confirmedBy
  split
  · next n l e => exact absurd e (h n l)
  · rfl

/-- The resolution of a mark once the changes of a map event are announced (R124, R135). -/
def Mark.announcedResolution (e : Learned) (m : Mark) : Resolution :=
  if e.changes = [] then m.resolution else reResolve e.map.spans e.changes m.address m.resolution

/-- A mark once a report's changes are announced and the report is offered to it (R135, R138). -/
def Mark.afterReport (e : Learned) (w : Int) (r : Stamp) (m : Mark) : Mark :=
  ({ m with resolution := m.announcedResolution e } : Mark).confirmedBy w r

theorem mapEvent_marks_eq (s : State) (e : Learned) :
    (s.mapEvent e).marks = s.marks.map (fun m => { m with resolution := m.announcedResolution e }) := by
  rw [mapEvent_marks]
  unfold Mark.announcedResolution
  split
  · exact (List.map_id' s.marks).symm
  · rfl

/-! ## An accepted report (R107, R108, R161, R162, R165) -/

/-- A report learned, announced and offered for confirmation, as it stands before the locate unit takes it (R108). -/
def State.reportLearned (r : Stamp) (s : State) : State :=
  let s := s.mapEvent (s.map.learn (heldBy s.marks) s.headNow r)
  s.setMarks (s.marks.map (Mark.confirmedBy (s.param Param.locateWindow) r))

theorem takeReport_eq (s : State) (r : Stamp) : s.takeReport r = (s.reportLearned r).handReport r := rfl

theorem reportLearned_frame (s : State) (r : Stamp) :
    s.reportLearned r
      = { s with
          map := (s.reportLearned r).map, marks := (s.reportLearned r).marks, ports := (s.reportLearned r).ports } := by
  unfold State.reportLearned
  dsimp only
  rw [mapEvent_eq]
  rfl

theorem reportLearned_map {s : State} {h : Int} (hh : s.geom.head = some h) (r : Stamp) :
    (s.reportLearned r).map = (s.map.learn (heldBy s.marks) h r).map := by
  simp [State.reportLearned, State.headNow, hh]

theorem reportLearned_ports {s : State} {h : Int} (hh : s.geom.head = some h) (r : Stamp) :
    (s.reportLearned r).ports = (s.mapEvent (s.map.learn (heldBy s.marks) h r)).ports := by
  simp [State.reportLearned, State.headNow, hh]

theorem reportLearned_marks {s : State} {h : Int} (hh : s.geom.head = some h) (r : Stamp) :
    (s.reportLearned r).marks
      = (s.mapEvent (s.map.learn (heldBy s.marks) h r)).marks.map
          (Mark.confirmedBy (paramOf s.ports.params Param.locateWindow) r) := by
  simp [State.reportLearned, State.headNow, hh, State.param]

theorem linkCheck_iff {high mid low check : Byte} :
    linkCheck high mid low check = true ↔ 0x96#8 + high + mid + low + check = 0 := by
  simp [linkCheck, byteSum]

theorem linkAddress_eq (high mid low : Byte) :
    linkAddress high mid low = (high.toNat * 65536 + mid.toNat * 256 + low.toNat : Nat) := by
  simp only [linkAddress, unsignedOf, List.foldl_cons, List.foldl_nil]
  omega

/-- An accepted frame takes its report, with the link back in HUNT (R107, R108, R203). -/
theorem exec_addressLinkFrame {high mid low check : Byte} {h : Int} {s : State}
    (hsum : 0x96#8 + high + mid + low + check = 0) (hh : s.geom.head = some h) (hread : s.seq.transport.reading = true)
    (hslow : mag s.speed.vMeas ≤ paramOf s.ports.params Param.reportSpeed) (hc : Due.extStopCatch ∉ s.due) :
    exec (.addressLinkFrame high mid low check) s
      = .next ((s.setLinkRx (.hunt false)).takeReport
          { address := linkAddress high mid low, length := s.stampLength h }) := by
  have accepts : (s.setLinkRx (.hunt false)).acceptsReports = true := by
    simp only [State.acceptsReports, Bool.and_eq_true, decide_eq_true_eq]
    exact ⟨hread, hslow⟩
  simp only [exec, execAddressLinkFrame, takeCatches_of_not_mem hc, linkCheck_iff.mpr hsum, if_true,
    State.addressReport, setLinkRx_geom, hh, accepts]
  rfl

theorem pitchAt_eq (spans : List Span) (l : Int) :
    pitchAt spans l = ((spans.find? (fun p => p.hasLength l)).map (fun p => p.pitch)).getD 40960 := by
  unfold pitchAt spanAt
  split
  · next e => rw [e]; rfl
  · next e => rw [e]; rfl

/-- The newest report that an accepted one becomes (R161). -/
def newestOf (spans : List Span) (r : Stamp) : Newest :=
  { address := r.address, length := r.length, pitch := pitchAt spans r.length }

theorem handReport_idle {s : State} (h : s.locate.active = none ∨ s.seq.transport.locatePhase = none) (r : Stamp) :
    s.handReport r = s := by
  unfold State.handReport
  split <;> simp_all

section HandReport

variable {u : State} {a q : LocateRecord} {r : Stamp} (ha : u.locate.active = some a)
  (hq : q = u.recompute { a with newest := some (newestOf u.map.spans r) })
include ha hq

theorem handReport_verify (hp : u.seq.transport.locatePhase = some .verify) : u.handReport r = u.setLocate q := by
  rw [hq]
  simp only [State.handReport, ha, hp]
  rfl

/-- In APPROACH a report moves the stopping point, or the point is missed (R161). -/
theorem handReport_approach {h : Int} (hh : u.geom.head = some h) (hp : u.seq.transport.locatePhase = some .approach) :
    u.handReport r
      = if q.stopPoint < h - 2 then (u.setLocate q).missLocate q
        else (u.setLocate q).headToward false q.stopPoint := by
  have behind : (u.setLocate q).behindHead q = decide (q.stopPoint < h - 2) := by
    rw [State.behindHead, State.headNow, setLocate_geom, hh]
    rfl
  have handed : u.handReport r = u.headFor false q := by
    rw [hq]
    simp only [State.handReport, ha, hp]
    rfl
  simp only [handed, State.headFor, behind, decide_eq_true_eq]

end HandReport

/-- A miss below the retry limit goes back toward the approach point of the recomputed record (R165). -/
theorem missLocate_back {s : State} {h : Int} (hh : s.geom.head = some h) {b q : LocateRecord} (hq : q = s.recompute b)
    (hv : b.target.verifying = true) (hb : q.stopPoint < h - 2) (hl : b.retries ≠ b.limit) :
    (s.setLocate q).missLocate q
      = (((s.setLocate q).setTransport (locateTransport s.seq.transport.isChase .reposition) none).setLocate
          { q with retries := b.retries + 1 }).headToward true (q.stopPoint - s.param Param.approachDistance) := by
  obtain ⟨target, retries, limit, -⟩ := recompute_keeps s b
  rw [← hq] at target retries limit
  have again : (s.setLocate q).recompute { q with retries := q.retries + 1 } = { q with retries := b.retries + 1 } := by
    rw [recompute_congr (s := s) (t := s.setLocate q) rfl rfl rfl rfl, retries, hq]
    exact recompute_recomputed ..
  have behind : q.stopPoint < (s.setLocate q).headNow := by
    rw [State.headNow, setLocate_geom, hh]
    show q.stopPoint < h
    omega
  rw [State.missLocate, if_neg (by rw [retries, limit]; exact hl), again]
  exact choosePhase_back (r := { q with retries := b.retries + 1 }) (by rw [← hv, ← target]) behind

/-- What a failed locate leaves beside its end: the located line, the rest destination, the reference and the marks
(R168). -/
theorem failLocate_frame (s : State) (o : LocateOutcome) :
    (s.failLocate o).locate.located = s.locate.located
      ∧ (s.failLocate o).seq.restDest = (if s.seq.transport.isChase then none else some .stopped)
      ∧ (s.failLocate o).speed.vRef = s.speed.vRef ∧ (s.failLocate o).marks = s.marks := by
  have vRef : ∀ {new : Transport} (d : Option RestDest), new.isForced = false →
      (((s.endLocate o).raise .locateFailed).setTransport new d).speed.vRef = s.speed.vRef := fun d hf => by
    rw [setTransport_vRef d hf, raise_speed, endLocate_speed]
  unfold State.failLocate
  cases s.seq.transport.isChase
  · exact ⟨endLocate_located s o, rfl, vRef (some .stopped) rfl, endLocate_marks s o⟩
  · exact ⟨endLocate_located s o, rfl, vRef none rfl, endLocate_marks s o⟩

/-- A miss at the retry limit fails the locate (R165, R168). -/
theorem missLocate_fails {s : State} {b q : LocateRecord} (hq : q = s.recompute b) (hl : b.retries = b.limit) :
    (s.setLocate q).missLocate q = (s.setLocate q).failLocate .missed := by
  obtain ⟨-, retries, limit, -⟩ := recompute_keeps s b
  rw [State.missLocate, if_pos (by rw [hq, retries, limit]; exact hl)]

/-- The resolution between announcement and confirmation, case by case (R135, R136). -/
theorem announcedResolution_spec (e : Learned) (m : Mark) :
    (e.changes = [] → m.announcedResolution e = m.resolution)
      ∧ (e.changes ≠ [] →
        (∀ a b x y, m.resolution = .confirmed a x → resolve e.map.spans m.address = .resolved b y →
          (successor e.changes a = some b → mag (y - x) ≤ 40 → m.announcedResolution e = .confirmed b y)
          ∧ (successor e.changes a ≠ some b ∨ 40 < mag (y - x) → m.announcedResolution e = .resolved b y))
        ∧ ((∀ a x, m.resolution ≠ .confirmed a x) ∨ (∀ b y, resolve e.map.spans m.address ≠ .resolved b y) →
          m.announcedResolution e = resolve e.map.spans m.address)) := by
  refine ⟨fun unchanged => if_pos unchanged, fun changed => ?_⟩
  rw [Mark.announcedResolution, if_neg changed]
  refine ⟨fun a b x y confirmed found => ?_, fun h => reResolve_afresh h _⟩
  rw [confirmed, reResolve_confirmed found]
  refine ⟨fun follows near => if_pos ⟨follows, near⟩, fun h => if_neg ?_⟩
  rintro ⟨follows, near⟩
  exact h.elim (absurd follows) (not_lt.mpr near)

/-- Settles O24: the frame's report is learned as a map event, each mark is announced and then offered, and the locate
unit's phase says what follows. -/
theorem acceptedReportIsLearned : Obligations.AcceptedReportIsLearned := by
  intro high mid low check h s hsum hh hread hslow hc
  have taken := exec_addressLinkFrame hsum hh hread hslow hc
  rw [takeReport_eq, linkAddress_eq] at taken
  generalize hr : ({ address := _, length := _ } : Stamp) = r at taken
  obtain ⟨e, he⟩ : ∃ e, e = s.map.learn (heldBy s.marks) h r := ⟨_, rfl⟩
  generalize hv : s.setLinkRx (.hunt false) = v at taken
  have hhv : v.geom.head = some h := by rw [← hv]; exact hh
  have learned : v.map.learn (heldBy v.marks) h r = e := by rw [he, ← hv]; rfl
  have frame := reportLearned_frame v r
  have map := reportLearned_map hhv r
  have marks := reportLearned_marks hhv r
  have ports := reportLearned_ports hhv r
  rw [learned] at map marks ports
  generalize v.reportLearned r = u at taken frame map marks ports
  subst hv
  have marks_eq : u.marks = s.marks.map (Mark.afterReport e (paramOf s.ports.params Param.locateWindow) r) := by
    rw [marks, mapEvent_marks_eq, List.map_map]
    rfl
  have locate : u.locate = s.locate := by rw [frame]; rfl
  have seq : u.seq = s.seq := by rw [frame]; rfl
  have head : u.geom.head = some h := by rw [frame]; exact hh
  have vRef : u.speed.vRef = s.speed.vRef := by rw [frame]; rfl
  have arb : u.arb = s.arb := by rw [frame]; rfl
  have params : u.ports.params = s.ports.params := by rw [ports, mapEvent_params]; rfl
  refine ⟨_, u, r, e, newestOf u.map.spans r, taken, hr.symm, he, map, ?_, ?_, fun i m hm => ?_, frame, ?_,
    fun p f => ?_, by rw [newestOf, pitchAt_eq], fun idle => ?_, fun a ha q hq => ?_⟩
  · rw [marks, mapEvent_marks]
    rfl
  · rw [marks_eq, List.length_map]
  · obtain ⟨unchanged, changed⟩ := announcedResolution_spec e m
    refine ⟨m.announcedResolution e, m.afterReport e _ r, by rw [marks_eq, List.getElem?_map, hm]; rfl,
      confirmedBy_keeps .., unchanged, changed,
      fun a x resolved address length => ?_, fun a x resolved off => ?_, fun h => confirmedBy_of_not_resolved h ..⟩
    · exact (confirmedBy_resolved resolved ..).trans (if_pos ⟨address, length⟩)
    · refine (confirmedBy_resolved resolved ..).trans (if_neg ?_)
      rintro ⟨address, length⟩
      exact off.elim (not_lt.mpr address) (not_lt.mpr length)
  · rw [ports]
    exact mapEvent_ports ..
  · rw [ports, mapEvent_has]
    rfl
  · rw [← locate, ← seq] at idle
    exact handReport_idle idle r
  · rw [← locate] at ha
    rw [← seq]
    refine ⟨fun hp => handReport_verify ha hq hp, fun hp => ?_⟩
    rw [handReport_approach ha hq head hp]
    refine ⟨fun reach => ?_, fun hb hl => ?_, fun hb hl verifies => ?_⟩
    · rw [if_neg (by omega)]
      rfl
    · rw [if_pos hb, missLocate_fails hq hl]
      obtain ⟨target, retries, -, error⟩ := recompute_keeps u { a with newest := some (newestOf u.map.spans r) }
      obtain ⟨transport, active, failed, result⟩ := failLocate_spec (s := u.setLocate q) .missed rfl
      obtain ⟨located, dest, reference, kept⟩ := failLocate_frame (u.setLocate q) .missed
      rw [← hq] at target retries error
      rw [result, transport, located, dest, reference, kept, State.resultOf, target, retries, error, State.headNow,
        setLocate_geom, head]
      exact ⟨active, (congrArg Locate.located locate :), rfl, failed, rfl, rfl, vRef, rfl⟩
    · rw [if_pos hb, missLocate_back head hq verifies hb hl]
      have going : (locateTransport u.seq.transport.isChase .reposition).isForced = false := by
        cases u.seq.transport.isChase <;> rfl
      refine ⟨rfl, (congrArg Locate.result locate :), rfl, ?_, ?_, arb, rfl, rfl⟩
      · rw [State.param, params]
        rfl
      · exact (setTransport_vRef none going).trans vRef

/-! ## One report taken by a span (R111, R113) -/

theorem roundDiv_zero {d : Int} (hd : 0 < d) : roundDiv 0 d = 0 := by
  rw [roundDiv, if_pos le_rfl]
  exact Int.ediv_eq_zero_of_lt (by omega) (by omega)

/-- A span predicts its start address at its start. -/
theorem predict_startLen {p : Span} (h : 0 < p.pitch) : p.predict p.startLen = p.startAddr := by
  rw [Span.predict, sub_self, zero_mul, roundDiv_zero h, add_zero]

theorem clampPitch_eq (x : Int) : clampPitch x = max 39936 (min 41984 x) := clampTo_eq_max_min (by decide) x

theorem consistent_iff {p : Span} {r : Stamp} :
    p.consistent r = true ↔ mag (r.address - (p.startAddr + roundDiv ((r.length - p.startLen) * 1024) p.pitch)) ≤ 2 :=
  decide_eq_true_iff

theorem covers_iff {p : Span} {l : Int} : p.covers l = true ↔ p.startLen - 80 ≤ l ∧ l ≤ p.lastLen + 80 := by
  simp [Span.covers]

theorem refinePitch_eq (p : Span) (r far : Stamp) :
    p.refinePitch r far
      = if 64 ≤ mag (r.address - far.address)
        then max 39936 (min 41984 (roundDiv (mag (r.length - far.length) * 1024) (mag (r.address - far.address))))
        else p.pitch := by
  simp only [Span.refinePitch, clampPitch_eq]

/-- What an extension announces (R124). -/
theorem extensionChanges_eq (old new : Span) :
    extensionChanges old new
      = if new.pitch = old.pitch then [.extended new.num] else [.extended new.num, .refined new.num] := by
  unfold extensionChanges
  by_cases h : old.pitch = new.pitch
  · rw [if_pos h, if_pos h.symm]
  · rw [if_neg h, if_neg (Ne.symm h)]

/-- A report past the end extends the span there (R113). -/
theorem take_past {p u : Span} {r : Stamp} (h : p.lastLen < r.length) (g : Option SpanEdge)
    (hu : u = { p with
      lastLen := r.length
      pitch :=
        if 64 ≤ mag (r.address - p.startAddr)
        then max 39936 (min 41984 (roundDiv (mag (r.length - p.startLen) * 1024) (mag (r.address - p.startAddr))))
        else p.pitch
      anchors := min (p.anchors + 1) 65535
      lastKind := .edge }) :
    p.take g r
      = (u, some .last, if u.pitch = p.pitch then [.extended p.num] else [.extended p.num, .refined p.num]) := by
  have extended : ({ p with anchors := capAnchors (p.anchors + 1) } : Span).extendLast r = u := by
    rw [hu, Span.extendLast, refinePitch_eq]
    rfl
  simp only [Span.take, if_pos h, extended, extensionChanges_eq]
  rw [hu]

/-- A report before the start extends the span there, its end address kept (R113). -/
theorem take_before {p u : Span} {r : Stamp} (h : r.length < p.startLen) (order : p.startLen ≤ p.lastLen)
    (g : Option SpanEdge) {pitch : Int}
    (hp : pitch = if 64 ≤ mag (r.address - p.lastAddr)
      then max 39936 (min 41984 (roundDiv (mag (r.length - p.lastLen) * 1024) (mag (r.address - p.lastAddr))))
      else p.pitch)
    (hu : u = { p with
      startLen := r.length, startAddr := p.lastAddr - roundDiv ((p.lastLen - r.length) * 1024) pitch, pitch := pitch
      anchors := min (p.anchors + 1) 65535, startKind := .edge }) :
    p.take g r
      = (u, some .start, if u.pitch = p.pitch then [.extended p.num] else [.extended p.num, .refined p.num]) := by
  have extended : ({ p with anchors := capAnchors (p.anchors + 1) } : Span).extendStart r = u := by
    rw [hu, hp, Span.extendStart, refinePitch_eq]
    rfl
  simp only [Span.take, if_neg (show ¬p.lastLen < r.length by omega), if_pos h, extended, extensionChanges_eq]
  rw [hu]

/-- A report within the range adds an anchor alone (R113). -/
theorem take_within {p : Span} {r : Stamp} (lo : p.startLen ≤ r.length) (hi : r.length ≤ p.lastLen)
    (g : Option SpanEdge) : p.take g r = ({ p with anchors := min (p.anchors + 1) 65535 }, g, []) := by
  simp only [Span.take, if_neg (not_lt.mpr hi), if_neg (not_lt.mpr lo)]
  rfl

/-! ## The case that applies (R112) -/

/-- The OPEN span takes a consistent report (R112 case 1). -/
theorem learn_of_open {m : MapUnit} {p : Span} {r : Stamp} (ho : m.openSpan = some p) (hc : p.consistent r = true)
    (held : Nat → Bool) (head : Int) :
    m.learn held head r = ({ m with gapCount := 0 } : MapUnit).openTakes p m.growing m.closed r := by
  have takes : ({ m with gapCount := 0 } : MapUnit).openSpan.filter (fun p => p.consistent r) = some p := by
    show m.openSpan.filter _ = _
    rw [ho, Option.filter_some, if_pos hc]
  simp only [MapUnit.learn, takes]
  rfl

/-- No span of the list takes the report: neither the OPEN one nor a CLOSED one that covers it (R112). -/
def MapUnit.Untaken (m : MapUnit) (r : Stamp) : Prop :=
  ∀ p ∈ m.spans, p.isOpen = true ∨ p.covers r.length = true → p.consistent r = false

theorem MapUnit.Untaken.openSpan {m : MapUnit} {r : Stamp} (h : m.Untaken r) :
    m.openSpan.filter (fun p => p.consistent r) = none := by
  cases ho : m.openSpan with
  | none => rfl
  | some p =>
    obtain ⟨mem, opened⟩ := mem_of_openSpan ho
    rw [Option.filter_some, h p mem (.inl opened)]
    rfl

theorem MapUnit.Untaken.covering {m : MapUnit} {r : Stamp} (h : m.Untaken r) : m.covering r = none := by
  have nothing : m.closed.filter (fun p => p.covers r.length && p.consistent r) = [] := by
    refine List.filter_eq_nil_iff.mpr fun p hp => ?_
    cases hcov : p.covers r.length
    · simp
    · simp [h p (List.mem_filter.mp hp).1 (.inr hcov)]
  rw [MapUnit.covering, nothing]
  rfl

/-- With no taker a report that pairs with the candidate makes a span (R112 case 3). -/
theorem learn_of_pair {m : MapUnit} {c r : Stamp} (h : m.Untaken r) (hc : m.candidate = some c)
    (hp : c.pairs r = true) (held : Nat → Bool) (head : Int) :
    m.learn held head r = ({ m with gapCount := 0 } : MapUnit).createOrFull held head c r := by
  have counted : ({ m with gapCount := 0 } : MapUnit).Untaken r := h
  have paired : m.candidate.filter (fun c => c.pairs r) = some c := by rw [hc, Option.filter_some, if_pos hp]
  simp only [MapUnit.learn, counted.openSpan, counted.covering, paired]

/-- With no taker any other report becomes the candidate (R112 case 4). -/
theorem learn_of_stray {m : MapUnit} {r : Stamp} (h : m.Untaken r) (hc : ∀ c, m.candidate = some c → c.pairs r = false)
    (held : Nat → Bool) (head : Int) :
    m.learn held head r
      = { map := { m with candidate := some r, gapCount := 0 }, changes := [], mapFull := false } := by
  have counted : ({ m with gapCount := 0 } : MapUnit).Untaken r := h
  have unpaired : m.candidate.filter (fun c => c.pairs r) = none := by
    cases hm : m.candidate with
    | none => rfl
    | some c => rw [Option.filter_some, hc c hm]; rfl
  simp only [MapUnit.learn, counted.openSpan, counted.covering, unpaired]

/-! ## A list of one span (R112 to R114) -/

/-- A span without neighbours takes a report. -/
theorem openTakes_alone (m : MapUnit) (p : Span) (g : Option SpanEdge) (r : Stamp) :
    m.openTakes p g [] r
      = { map := { m with spans := [(p.take g r).1], growing := (p.take g r).2.1 }
          changes := (p.take g r).2.2, mapFull := false } := by
  simp [MapUnit.openTakes, resolveOverlaps, Resolving.run, Resolving.finish, insertSpan]

/-- The one span takes a consistent report, whether it is OPEN or a CLOSED one that covers it and opens again. -/
theorem learn_single {m : MapUnit} {p : Span} {r : Stamp} {g : Option SpanEdge} (hm : m.spans = [p])
    (hc : p.consistent r = true)
    (h : (p.isOpen = true ∧ g = m.growing) ∨ (p.isOpen = false ∧ g = none ∧ p.covers r.length = true))
    (held : Nat → Bool) (head : Int) {u : Span} {edge : Option SpanEdge} {changes : List Change}
    (ht : ({ p with isOpen := true } : Span).take g r = (u, edge, changes)) :
    m.learn held head r
      = { map := { m with spans := [u], growing := edge, gapCount := 0 }, changes := changes, mapFull := false } := by
  rcases h with ⟨opened, rfl⟩ | ⟨closed, rfl, covers⟩
  · have same : ({ p with isOpen := true } : Span) = p := by rw [← opened]
    have others : m.closed = [] := by simp [MapUnit.closed, hm, opened]
    rw [learn_of_open (by simp [MapUnit.openSpan, hm, opened]) hc, others, openTakes_alone, ← same, ht]
  · have allClosed : ∀ k ∈ ({ m with gapCount := 0 } : MapUnit).spans, k.isOpen = false := by simp [hm, closed]
    have noOpen : ({ m with gapCount := 0 } : MapUnit).openSpan.filter (fun k => k.consistent r) = none := by
      rw [openSpan_eq_none_iff.mpr allClosed]
      rfl
    have covering : ({ m with gapCount := 0 } : MapUnit).covering r = some p := by
      simp [MapUnit.covering, MapUnit.closed, hm, closed, covers, hc, betterCover]
    have others : m.spans.filter (fun k => k.num != p.num) = [] := by simp [hm]
    simp only [MapUnit.learn, noOpen, covering, MapUnit.reopen, closeOpen_of_closed allClosed, others, openTakes_alone,
      ht]

/-! ## The gap count's limit (R121) -/

/-- GAP_COUNT_LIMIT closes the OPEN span with EDGE when the count stands at 320, and changes nothing otherwise. -/
theorem exec_gapCountLimit {s : State} (hc : Due.extStopCatch ∉ s.due) :
    exec .gapCountLimit s = .next (if s.map.gapFull then s.setMap (s.map.closeOpen .edge) else s) := by
  simp only [exec, execGapCountLimit, takeCatches_of_not_mem hc]

theorem closeOpen_of_open {m : MapUnit} (h : ∃ p ∈ m.spans, p.isOpen = true) (kind : EdgeKind) :
    m.closeOpen kind
      = { m with spans := m.spans.map (Span.closedBy kind m.growing), growing := none, gapCount := 0 } := by
  obtain ⟨p, hp⟩ := Option.isSome_iff_exists.mp (openSpan_isSome_iff.mpr h)
  simp only [MapUnit.closeOpen, hp]
  rfl

/-! ## An OPEN span that grows onto its neighbour (R117 to R119) -/

/-- The OPEN span grown past its end against its one neighbour. -/
theorem learn_grown {m : MapUnit} {p q u : Span} {r : Stamp} (hm : m.spans = [p, q]) (ho : p.isOpen = true)
    (hq : q.isOpen = false) (hc : p.consistent r = true) {g : Option SpanEdge} {grown : List Change}
    (ht : p.take m.growing r = (u, g, grown)) (held : Nat → Bool) (head : Int) :
    m.learn held head r = (resolveOverlaps u g [q]).finish { m with gapCount := 0 } grown := by
  have others : m.closed = [q] := by simp [MapUnit.closed, hm, ho, hq]
  rw [learn_of_open (by simp [MapUnit.openSpan, hm, ho]) hc, others, MapUnit.openTakes, ht]

theorem keep_of_long {x : Span} (h : 80 ≤ x.lastLen - x.startLen) (w : Resolving) :
    w.keep x = { w with done := w.done ++ [x], changes := w.changes ++ [.cut x.num] } :=
  if_pos (longEnough_iff.mpr h)

theorem keep_of_short {x : Span} (h : x.lastLen - x.startLen < 80) (w : Resolving) :
    w.keep x = { w with changes := w.changes ++ [.removed (some x.num)] } :=
  if_neg (by rw [longEnough_iff]; omega)

section Behind

variable {u q : Span} (g : Option SpanEdge) (hs : u.shares q = true) (order : u.startLen ≤ q.startLen)
  (hp : 0 < q.pitch)
include hs order hp

/-- A neighbour that starts behind the OPEN span's start: merged, cut back, or removed (R118, R119). -/
theorem resolveOverlaps_behind {w : Resolving}
    (hw : w = { span := u, growing := g, done := [], changes := [], mapFull := false }) :
    resolveOverlaps u g [q]
      = if mag (u.predict q.startLen - q.startAddr) ≤ 2 then w.merge q
        else if u.lastLen < q.lastLen then w.keep (q.cutStart u)
        else { w with changes := w.changes ++ [.removed (some q.num)] } := by
  subst hw
  simp only [resolveOverlaps, Resolving.run, Resolving.step, hs, Bool.not_true, Bool.false_eq_true, if_false,
    max_eq_right order, predict_startLen hp, if_neg (not_lt.mpr order)]

theorem resolveOverlaps_merges (near : mag (u.predict q.startLen - q.startAddr) ≤ 2) :
    resolveOverlaps u g [q]
      = { span := mergeSpans u q, growing := mergedGrowing u q g, done := [], changes := mergeChanges u q
          mapFull := false } := by
  rw [resolveOverlaps_behind g hs order hp rfl, if_pos near]
  rfl

/-- A neighbour in conflict keeps its part behind the OPEN span when 80 counts of it stay (R119). -/
theorem resolveOverlaps_cutsStart (off : 2 < mag (u.predict q.startLen - q.startAddr))
    (long : u.lastLen + 81 ≤ q.lastLen) :
    resolveOverlaps u g [q]
      = { span := u, growing := g, done := [q.cutStart u], changes := [.cut q.num], mapFull := false } := by
  have start : (q.cutStart u).startLen = u.lastLen + 1 := rfl
  have last : (q.cutStart u).lastLen = q.lastLen := rfl
  rw [resolveOverlaps_behind g hs order hp rfl, if_neg (not_le.mpr off), if_pos (by omega), keep_of_long (by omega)]
  rfl

/-- A neighbour in conflict of which fewer than 80 counts would stay is removed (R117, R119). -/
theorem resolveOverlaps_removes (off : 2 < mag (u.predict q.startLen - q.startAddr))
    (short : q.lastLen < u.lastLen + 81) :
    resolveOverlaps u g [q]
      = { span := u, growing := g, done := [], changes := [.removed (some q.num)], mapFull := false } := by
  have start : (q.cutStart u).startLen = u.lastLen + 1 := rfl
  have last : (q.cutStart u).lastLen = q.lastLen := rfl
  rw [resolveOverlaps_behind g hs order hp rfl, if_neg (not_le.mpr off), keep_of_short (by omega)]
  exact ite_self _

end Behind

/-- The merge of an OPEN span with a neighbour that starts behind it (R118). -/
theorem mergeSpans_eq {u q far : Span} (order : u.startLen ≤ q.startLen)
    (hf : far = if q.lastLen < u.lastLen then u else q) :
    mergeSpans u q
      = { num := u.num, startLen := u.startLen, lastLen := far.lastLen, startAddr := u.startAddr
          pitch :=
            if 64 ≤ far.lastAddr - u.startAddr
            then max 39936 (min 41984 (roundDiv ((far.lastLen - u.startLen) * 1024) (far.lastAddr - u.startAddr)))
            else 40960
          anchors := min (u.anchors + q.anchors) 65535, isOpen := true, startKind := u.startKind
          lastKind := far.lastKind } := by
  rw [hf]
  simp only [mergeSpans, if_pos order, clampPitch_eq]
  rfl

/-- What such a merge announces (R118, R124). -/
theorem mergeChanges_eq {u q : Span} (order : u.startLen ≤ q.startLen) :
    mergeChanges u q
      = .merged u.num q.num
        :: ((if (mergeSpans u q).lastLen = u.lastLen then [] else [.extended u.num])
          ++ (if (mergeSpans u q).pitch = u.pitch then [] else [.refined u.num])) := by
  simp only [mergeChanges, if_pos order, mergeSpans]

/-- The growing end of an OPEN span is kept when it reaches past the neighbour (R118). -/
theorem mergedGrowing_last {u q : Span} (order : u.startLen ≤ q.startLen) :
    mergedGrowing u q (some .last) = if q.lastLen < u.lastLen then some .last else none := by
  simp only [mergedGrowing, order, true_and, not_lt.mpr order, false_and, or_false]

/-- Settles O26: one span takes the report by its place, the gap count's limit closes the OPEN one, and a grown span
meets its neighbour in one step of the resolution. -/
theorem reportsExtendReopenMergeAndCutSpans : Obligations.ReportsExtendReopenMergeAndCutSpans := by
  refine ⟨⟨fun m held head p r hm ho past near order => ⟨_, rfl, ?_⟩,
      fun s hc => ⟨fun full opened => ?_, fun short => ?_⟩⟩,
    fun m held head p r g hm order near state => ⟨fun lo hi => ?_, fun outside far pitch hlen haddr hpitch => ?_⟩,
    fun m held head p q u r grown hm ho hq order apart qorder reach hp near hu hgrown => ?_⟩
  · refine learn_single hm (consistent_iff.mpr near) (.inl ⟨ho, rfl⟩) held head ?_
    rw [show ({ p with isOpen := true } : Span) = p by rw [← ho]]
    exact take_past past m.growing rfl
  · rw [exec_gapCountLimit hc, if_pos (gapFull_iff.mpr ⟨full, opened⟩), closeOpen_of_open opened]
    simp only [funext (Span.closedBy_eq .edge s.map.growing)]
    rfl
  · rw [exec_gapCountLimit hc, gapFull_eq_false short]
    rfl
  · exact learn_single hm (consistent_iff.mpr near)
      (state.imp_right fun ⟨hcl, hg, hcov⟩ => ⟨hcl, hg, covers_iff.mpr hcov⟩) held head
      (take_within (p := { p with isOpen := true }) lo hi g)
  · have single {u : Span} {edge : SpanEdge} {changes : List Change}
        (ht : ({ p with isOpen := true } : Span).take g r = (u, some edge, changes)) := learn_single hm
      (consistent_iff.mpr near) (state.imp_right fun ⟨hcl, hg, hcov⟩ => ⟨hcl, hg, covers_iff.mpr hcov⟩) held head ht
    refine ⟨_, rfl, ?_⟩
    by_cases before : r.length < p.startLen
    · rw [if_pos before] at hlen haddr
      rw [hlen, haddr] at hpitch
      simp only [if_pos before, hlen, haddr]
      exact single (take_before (p := { p with isOpen := true }) before order g hpitch rfl)
    · rw [if_neg before] at hlen haddr
      rw [hlen, haddr] at hpitch
      simp only [if_neg before, hpitch]
      exact single (take_past (p := { p with isOpen := true }) (outside.resolve_left before) g rfl)
  · have ht : p.take m.growing r = (u, some .last, grown) := by rw [hgrown]; exact take_past (by omega) m.growing hu
    have hnum : u.num = p.num := by rw [hu]
    have hstart : u.startLen = p.startLen := by rw [hu]
    have haddr : u.startAddr = p.startAddr := by rw [hu]
    have hkind : u.startKind = p.startKind := by rw [hu]
    have hlast : u.lastLen = r.length := by rw [hu]
    have ahead : u.startLen ≤ q.startLen := by omega
    have shares : u.shares q = true := shares_iff.mpr (by omega)
    rw [learn_grown hm ho hq (consistent_iff.mpr near) ht]
    refine ⟨fun meets far w e hf he hw => ?_, fun differs => ⟨fun long => ?_, fun short => ?_⟩⟩
    · have merged : mergeSpans u q = w := by
        rw [mergeSpans_eq ahead hf, hw, he, hnum, hstart, haddr, hkind]
        rfl
      rw [resolveOverlaps_merges _ shares ahead hp meets]
      simp only [mergedGrowing_last ahead, mergeChanges_eq ahead, merged, hnum]
      rfl
    · rw [resolveOverlaps_cutsStart _ shares ahead hp differs long]
      have first : u.startLen ≤ (q.cutStart u).startLen := by show u.startLen ≤ u.lastLen + 1; omega
      simp only [Resolving.finish, insertSpan, if_pos first]
      rfl
    · rw [resolveOverlaps_removes _ shares ahead hp differs short]
      rfl

/-! ## A span made of two reports (R115, R116) -/

theorem pairs_iff {c r : Stamp} :
    c.pairs r = true ↔ r.address ≠ c.address
      ∧ mag ((r.address - c.address) - roundDiv ((r.length - c.length) * 1024) 40960) ≤ 2 :=
  Bool.and_eq_true_iff.trans (and_congr decide_eq_true_iff decide_eq_true_iff)

/-- The lowest number that no span holds, every lower one being held. -/
theorem freeNum_eq {l : List Span} {n : Nat} (hn : n < Config.maxSpans) (free : ∀ q ∈ l, q.num ≠ n)
    (lower : ∀ j < n, ∃ q ∈ l, q.num = j) : freeNum l = some n := by
  refine List.find?_range_eq_some.mpr ⟨?_, List.mem_range.mpr hn, fun j hj => ?_⟩
  · simpa using free
  · simpa using lower j hj

/-- Below the capacity a number is free. -/
theorem freeNum_isSome {l : List Span} (h : l.length < Config.maxSpans) : ∃ n, freeNum l = some n := by
  refine Option.ne_none_iff_exists'.mp fun used => ?_
  have all : List.range Config.maxSpans ⊆ l.map Span.num := fun n hn => by
    have := List.find?_eq_none.mp used n hn
    simpa using this
  have := (List.nodup_range.subperm all).length_le
  rw [List.length_range, List.length_map] at this
  omega

theorem newSpan_eq {c r low high : Stamp} (h : (low = c ∧ high = r) ∨ (low = r ∧ high = c))
    (lt : low.length < high.length) (n : Nat) :
    newSpan n c r
      = { num := n, startLen := low.length, lastLen := high.length, startAddr := low.address, pitch := 40960
          anchors := 2, isOpen := true, startKind := .edge, lastKind := .edge } := by
  rcases h with ⟨rfl, rfl⟩ | ⟨rfl, rfl⟩
  · simp only [newSpan, if_neg (not_lt.mpr lt.le)]
    rfl
  · simp only [newSpan, if_pos lt]
    rfl

/-- A creation with a free number (R116). -/
theorem create_eq {m : MapUnit} {n : Nat} (h : freeNum (m.closeOpen .jump).spans = some n) (c r : Stamp)
    (changes : List Change) {w : Resolving}
    (hw : resolveOverlaps (newSpan n c r) none (m.closeOpen .jump).spans = w) :
    m.create c r changes
      = { map := { m.closeOpen .jump with
            candidate := none, spans := insertSpan (w.span.setKinds (newSpan n c r) w.done) w.done
            growing := w.growing }
          changes := changes ++ [.created n] ++ w.changes, mapFull := w.mapFull } := by
  rw [← hw]
  simp only [MapUnit.create, h]
  rfl

/-! ## A split (R120) -/

/-- A new span inside a CLOSED one in conflict, with room on both sides, splits it. -/
theorem resolveOverlaps_splits {p q : Span} {k : Nat} (g : Option SpanEdge) (room : q.startLen + 81 ≤ p.startLen)
    (order : p.startLen ≤ p.lastLen) (room' : p.lastLen + 81 ≤ q.lastLen)
    (off : 2 < mag (p.predict p.startLen - q.predict p.startLen)) (free : freeNum [p, q.cutLast p] = some k) :
    resolveOverlaps p g [q]
      = { span := p, growing := g, done := [q.cutLast p, { q.cutStart p with num := k, isOpen := false }]
          changes := [.cut q.num, .created k], mapFull := false } := by
  have lower : 80 ≤ (q.cutLast p).lastLen - (q.cutLast p).startLen := by
    show 80 ≤ p.startLen - 1 - q.startLen
    omega
  have upper : (q.cutStart p).longEnough = true :=
    longEnough_iff.mpr (by show 80 ≤ q.lastLen - (p.lastLen + 1); omega)
  have shares : p.shares q = true := shares_iff.mpr (by omega)
  have ahead : max p.startLen q.startLen = p.startLen := max_eq_left (by omega)
  simp only [resolveOverlaps, Resolving.run, Resolving.step, shares, Bool.not_true, Bool.false_eq_true, if_false, ahead,
    if_neg (not_le.mpr off), if_pos (show q.startLen < p.startLen by omega),
    if_pos (show p.lastLen < q.lastLen by omega), keep_of_long lower, Resolving.keepUpper, List.nil_append,
    List.append_nil, free, upper]
  rfl

/-- A new span right between two parts of a split carries JUMP at both ends (R116 step 5). -/
theorem setKinds_between {p a b : Span} (ha : a.lastLen = p.startLen - 1) (hb : b.startLen = p.lastLen + 1) :
    p.setKinds p [a, b] = { p with startKind := .jump, lastKind := .jump } := by
  have before :
      [a, b].any (fun q => decide (p.startLen - 80 ≤ q.lastLen) && decide (q.lastLen ≤ p.startLen - 1)) = true :=
    List.any_eq_true.mpr ⟨a, by simp, by rw [Bool.and_eq_true, decide_eq_true_eq, decide_eq_true_eq]; omega⟩
  have after :
      [a, b].any (fun q => decide (p.lastLen + 1 ≤ q.startLen) && decide (q.startLen ≤ p.lastLen + 80)) = true :=
    List.any_eq_true.mpr ⟨b, by simp, by rw [Bool.and_eq_true, decide_eq_true_eq, decide_eq_true_eq]; omega⟩
  simp only [Span.setKinds, before, after, if_true]

theorem insertSpan_between {p a b : Span} (ha : a.startLen < p.startLen) (hb : p.startLen ≤ b.startLen) :
    insertSpan p [a, b] = [a, p, b] := by
  simp only [insertSpan, if_neg (not_le.mpr ha), if_pos hb]

/-! ## Eviction (R122, R123) -/

/-- The farthest of a list of spans from the head is found. -/
theorem foldl_fartherSpan (head : Int) (l : List Span) (b : Span) :
    ∃ p, l.foldl (fartherSpan head) (some b) = some p ∧ p ∈ b :: l
      ∧ ∀ q ∈ b :: l, q.distance head ≤ p.distance head := by
  induction l generalizing b with
  | nil => exact ⟨b, rfl, by simp, by simp⟩
  | cons k l ih =>
    simp only [List.foldl_cons, fartherSpan]
    split
    · next far =>
      obtain ⟨p, hp, mem, most⟩ := ih k
      refine ⟨p, hp, List.mem_cons_of_mem b mem, fun q hq => ?_⟩
      rcases List.mem_cons.mp hq with rfl | hq
      · exact far.le.trans (most k (by simp))
      · exact most q hq
    · next near =>
      obtain ⟨p, hp, mem, most⟩ := ih b
      refine ⟨p, hp, ?_, fun q hq => ?_⟩
      · rcases List.mem_cons.mp mem with rfl | mem <;> simp [*]
      · rcases List.mem_cons.mp hq with rfl | hq
        · exact most _ (by simp)
        · rcases List.mem_cons.mp hq with rfl | hq
          · exact (not_lt.mp near).trans (most b (by simp))
          · exact most q (by simp [hq])

theorem mem_evictable {m : MapUnit} {held : Nat → Bool} {p : Span} :
    p ∈ m.spans.filter (Span.evictable held) ↔ p ∈ m.spans ∧ p.isOpen = false ∧ held p.num = false := by
  simp [Span.evictable]

/-- No span is evicted when every one is OPEN or held (R123). -/
theorem evictee_none {m : MapUnit} {held : Nat → Bool} (h : ∀ p ∈ m.spans, p.isOpen = true ∨ held p.num = true)
    (head : Int) : m.evictee held head = none := by
  have nothing : m.spans.filter (Span.evictable held) = [] := by
    refine List.filter_eq_nil_iff.mpr fun p hp => ?_
    rcases h p hp with e | e <;> simp [Span.evictable, e]
  rw [MapUnit.evictee, nothing]
  rfl

/-- The span that lies strictly farthest from the head among those that may go is evicted (R122). -/
theorem evictee_farthest {m : MapUnit} {held : Nat → Bool} {head : Int} {q : Span} (hq : q ∈ m.spans)
    (closed : q.isOpen = false) (free : held q.num = false)
    (far : ∀ p ∈ m.spans, p.isOpen = false → held p.num = false → p ≠ q → p.distance head < q.distance head) :
    m.evictee held head = some q := by
  have mem : q ∈ m.spans.filter (Span.evictable held) := mem_evictable.mpr ⟨hq, closed, free⟩
  rw [MapUnit.evictee]
  cases hl : m.spans.filter (Span.evictable held) with
  | nil => rw [hl] at mem; cases mem
  | cons b l =>
    obtain ⟨p, hp, pmem, most⟩ := foldl_fartherSpan head l b
    rw [← hl] at pmem most
    obtain ⟨pspan, pclosed, pfree⟩ := mem_evictable.mp pmem
    have same : p = q := by
      by_contra ne
      have := far p pspan pclosed pfree ne
      have := most q mem
      omega
    rw [← same]
    exact hp

theorem closeOpen_gapCount {m : MapUnit} (h : m.gapCount = 0) (kind : EdgeKind) : (m.closeOpen kind).gapCount = 0 := by
  unfold MapUnit.closeOpen
  split
  · exact h
  · rfl

theorem createOrFull_room {m : MapUnit} (h : m.spans.length < Config.maxSpans) (held : Nat → Bool) (head : Int)
    (c r : Stamp) : m.createOrFull held head c r = m.create c r [] := if_pos h

theorem untaken_nil {m : MapUnit} (h : m.spans = []) (r : Stamp) : m.Untaken r := by
  intro p hp
  rw [h] at hp
  cases hp

/-- Every span that could take the report predicts another address than it gives (R111). -/
theorem untaken_of_off {m : MapUnit} {r : Stamp}
    (h : ∀ p ∈ m.spans, p.isOpen = true ∨ (p.startLen - 80 ≤ r.length ∧ r.length ≤ p.lastLen + 80) →
      2 < mag (r.address - (p.startAddr + roundDiv ((r.length - p.startLen) * 1024) p.pitch))) : m.Untaken r := by
  intro p hp taker
  rw [covers_iff] at taker
  rw [Bool.eq_false_iff, ne_eq, consistent_iff]
  exact not_le.mpr (h p hp taker)

/-- A pair in an empty list makes one OPEN span with EDGE at both ends (R116). -/
theorem create_in_empty {m : MapUnit} {c r low high : Stamp} (hm : m.spans = [])
    (ends : (low = c ∧ high = r) ∨ (low = r ∧ high = c)) (lt : low.length < high.length) :
    m.create c r []
      = { map := { m with
            spans := [{ num := 0, startLen := low.length, lastLen := high.length, startAddr := low.address,
                        pitch := 40960, anchors := 2, isOpen := true, startKind := .edge, lastKind := .edge }]
            growing := none, candidate := none }
          changes := [.created 0], mapFull := false } := by
  have closed : m.closeOpen .jump = m := closeOpen_of_closed (by simp [hm]) .jump
  have free : freeNum (m.closeOpen .jump).spans = some 0 := by
    rw [closed, hm]
    rfl
  rw [create_eq (w := ⟨newSpan 0 c r, none, [], [], false⟩) free c r [] (by rw [closed, hm]; rfl), closed,
    newSpan_eq ends lt]
  simp [insertSpan, Span.setKinds]

/-- A pair inside one CLOSED span in conflict splits it (R116, R120). -/
theorem create_splits {m : MapUnit} {q : Span} {c r low high : Stamp} (hm : m.spans = [q]) (hq : q.isOpen = false)
    (ends : (low = c ∧ high = r) ∨ (low = r ∧ high = c)) (lt : low.length < high.length)
    (off : 2 < mag (low.address - q.predict low.length)) (room : q.startLen + 81 ≤ low.length)
    (room' : high.length + 81 ≤ q.lastLen) {n k : Nat} (hn : n = (if q.num = 0 then 1 else 0))
    (hk : k = (if q.num ≤ 1 then 2 else 1)) :
    m.create c r []
      = { map := { m with
            spans := [{ q with lastLen := low.length - 1, lastKind := .cut },
              { num := n, startLen := low.length, lastLen := high.length, startAddr := low.address, pitch := 40960,
                anchors := 2, isOpen := true, startKind := .jump, lastKind := .jump },
              { q with
                num := k, startLen := high.length + 1, startAddr := q.predict (high.length + 1), startKind := .cut }]
            growing := none, candidate := none }
          changes := [.created n, .cut q.num, .created k], mapFull := false } := by
  have numbers : (q.num = 0 ∧ n = 1 ∧ k = 2) ∨ (q.num = 1 ∧ n = 0 ∧ k = 2) ∨ (1 < q.num ∧ n = 0 ∧ k = 1) := by
    split at hn <;> split at hk <;> omega
  have closed : m.closeOpen .jump = m := closeOpen_of_closed (by simp [hm, hq]) .jump
  have free : freeNum (m.closeOpen .jump).spans = some n := by
    rw [closed, hm]
    refine freeNum_eq (by rw [Config.maxSpans]; omega) (fun p hp => ?_) (fun j hj => ⟨q, by simp, by omega⟩)
    rw [List.mem_singleton.mp hp]
    omega
  obtain ⟨p, hp⟩ : ∃ p, p = newSpan n c r := ⟨_, rfl⟩
  have fields : p = _ := hp.trans (newSpan_eq ends lt n)
  have num : p.num = n := by rw [fields]
  have start : p.startLen = low.length := by rw [fields]
  have last : p.lastLen = high.length := by rw [fields]
  have pitch : p.pitch = 40960 := by rw [fields]
  have address : p.startAddr = low.address := by rw [fields]
  have conflict : 2 < mag (p.predict p.startLen - q.predict p.startLen) := by
    rw [predict_startLen (by omega), start, address]
    exact off
  have upper : freeNum [p, q.cutLast p] = some k := by
    have lowerNum : (q.cutLast p).num = q.num := rfl
    refine freeNum_eq (by rw [Config.maxSpans]; omega) (fun x hx => ?_) (fun j hj => ?_)
    · rcases List.mem_pair.mp hx with rfl | rfl <;> omega
    · have : j = p.num ∨ j = (q.cutLast p).num := by omega
      rcases this with rfl | rfl <;> simp
  have resolved := resolveOverlaps_splits none (by omega) (by omega) (by omega) conflict upper
  rw [create_eq free c r [] (by rw [closed, hm, ← hp, resolved]), closed, ← hp,
    setKinds_between rfl rfl, insertSpan_between (by show q.startLen < p.startLen; omega)
    (by show p.startLen ≤ p.lastLen + 1; omega)]
  simp only [Span.cutLast, Span.cutStart, start, last, hq]
  rw [fields]
  rfl

/-- At capacity the creation is refused with every span OPEN or held (R123). -/
theorem createOrFull_full {m : MapUnit} {held : Nat → Bool} {head : Int} (full : m.spans.length = Config.maxSpans)
    (kept : m.evictee held head = none) (c r : Stamp) :
    m.createOrFull held head c r = { map := { m with candidate := none }, changes := [], mapFull := true } := by
  simp only [MapUnit.createOrFull, if_neg (show ¬m.spans.length < Config.maxSpans by omega), kept]

/-- At capacity the evicted span makes room, and its removal is announced before the creation (R122, R124). -/
theorem createOrFull_evicts {m : MapUnit} {held : Nat → Bool} {head : Int} {q : Span}
    (full : m.spans.length = Config.maxSpans) (found : m.evictee held head = some q) (hq : q ∈ m.spans) (c r : Stamp) :
    ∃ n, (m.createOrFull held head c r).changes.take 2 = [.evicted q.num, .created n]
      ∧ (m.createOrFull held head c r).map.candidate = none
      ∧ (m.gapCount = 0 → (m.createOrFull held head c r).map.gapCount = 0) := by
  obtain ⟨u, hu⟩ : ∃ u : MapUnit, u = { m with spans := m.spans.filter (fun p => p.num != q.num) } := ⟨_, rfl⟩
  have evicts : m.createOrFull held head c r = u.create c r [.evicted q.num] := by
    simp only [MapUnit.createOrFull, if_neg (show ¬m.spans.length < Config.maxSpans by omega), found, hu]
  have room : (u.closeOpen .jump).spans.length < Config.maxSpans := by
    rw [closeOpen_spans, List.length_map, hu, ← full]
    exact List.length_filter_lt_length_iff_exists.mpr ⟨q, hq, by simp⟩
  obtain ⟨n, free⟩ := freeNum_isSome room
  rw [evicts, create_eq free c r _ rfl]
  exact ⟨n, rfl, rfl, fun h => closeOpen_gapCount (by rw [hu]; exact h) .jump⟩

/-- Settles O25: the pair in an empty list, in a span that it splits, and at capacity. -/
theorem candidatePairMakesSpanSplitsAndEvicts : Obligations.CandidatePairMakesSpanSplitsAndEvicts := by
  refine ⟨fun m held head r hm hg => ⟨fun hc => ?_, fun c hc => ⟨fun ne near diff => ?_, fun stray => ?_⟩⟩,
    fun m held head q c r low high hm hq hc off ne near ends lt lowOff room room' n k hn hk => ?_,
    fun m held head c r dist full hdist hc ne near off => ⟨fun kept => ?_, fun q hq closed free far => ?_⟩⟩
  · exact learn_of_stray (untaken_nil hm r) (by simp [hc]) held head
  · obtain ⟨low, high, ends, lt⟩ : ∃ low high : Stamp, ((low = c ∧ high = r) ∨ (low = r ∧ high = c))
        ∧ low.length < high.length := by
      rcases lt_or_gt_of_ne diff with lt | lt
      · exact ⟨r, c, .inr ⟨rfl, rfl⟩, lt⟩
      · exact ⟨c, r, .inl ⟨rfl, rfl⟩, lt⟩
    refine ⟨low, high, ends, lt, ?_⟩
    rw [learn_of_pair (untaken_nil hm r) hc (pairs_iff.mpr ⟨ne, near⟩),
      createOrFull_room (by rw [hm]; decide), create_in_empty (m := { m with gapCount := 0 }) hm ends lt, hg]
  · refine learn_of_stray (untaken_nil hm r) (fun b hb => ?_) held head
    rw [hc] at hb
    cases hb
    rw [Bool.eq_false_iff, ne_eq, pairs_iff]
    rintro ⟨ne, near⟩
    exact stray.elim ne (not_lt.mpr near)
  · have untaken : m.Untaken r := untaken_of_off (by rw [hm]; rintro p hp -; rw [List.mem_singleton.mp hp]; exact off)
    rw [learn_of_pair untaken hc (pairs_iff.mpr ⟨ne, near⟩), createOrFull_room (by rw [hm]; exact (by decide : 1 < 96)),
      create_splits (m := { m with gapCount := 0 }) hm hq ends lt lowOff room room' hn hk]
    rfl
  · rw [learn_of_pair (untaken_of_off off) hc (pairs_iff.mpr ⟨ne, near⟩)]
    exact createOrFull_full (m := { m with gapCount := 0 }) full (evictee_none kept head) c r
  · have found : ({ m with gapCount := 0 } : MapUnit).evictee held head = some q :=
      evictee_farthest hq closed free fun p hp pclosed pfree hne => by
        have := far p hp pclosed pfree hne
        rwa [hdist, hdist] at this
    rw [learn_of_pair (untaken_of_off off) hc (pairs_iff.mpr ⟨ne, near⟩)]
    obtain ⟨n, changes, candidate, gap⟩ := createOrFull_evicts (m := { m with gapCount := 0 }) full found hq c r
    exact ⟨n, changes, candidate, gap rfl⟩

end Sys2Proof.Machine

/-! # The marks family

The form of the mark table and the resolutions as invariants of every move first, then what no studio path does to a
locked PANEL mark, then the mark requests one by one. -/

namespace Sys2Proof.Machine

/-! ## The form of the mark table (R130, R131, R133) -/

/-- One mark in its own form (R130, R131). -/
def Mark.InForm (m : Mark) : Prop :=
  m.number < Config.maxMarks ∧ -4096 ≤ m.trim ∧ m.trim ≤ 4095 ∧ (m.owner = .studio → m.lock = false)

theorem marksWellFormed_iff {ms : List Mark} :
    MarksWellFormed ms ↔ ms.Pairwise (fun m k => m.number < k.number) ∧ ∀ m ∈ ms, m.InForm := Iff.rfl

theorem marksWellFormed_nil : MarksWellFormed [] := marksWellFormed_iff.mpr ⟨.nil, by simp⟩

/-- In a table in form each mark is the one that its number names. -/
theorem MarksWellFormed.markAt_of_mem {ms : List Mark} (h : MarksWellFormed ms) {m : Mark} (hm : m ∈ ms) :
    markAt ms m.number = some m := by
  obtain ⟨order, -⟩ := h
  induction ms with
  | nil => cases hm
  | cons q rest ih =>
    obtain ⟨first, later⟩ := List.pairwise_cons.mp order
    rw [markAt_cons]
    rcases List.mem_cons.mp hm with rfl | hm
    · exact if_pos rfl
    · rw [if_neg (first m hm).ne, ih hm later]

theorem MarksWellFormed.filter {ms : List Mark} (h : MarksWellFormed ms) (f : Mark → Bool) :
    MarksWellFormed (ms.filter f) := by
  obtain ⟨order, form⟩ := marksWellFormed_iff.mp h
  exact ⟨order.sublist List.filter_sublist, fun m hm => form m (List.mem_filter.mp hm).1⟩

/-- Marks that keep their numbers and their form keep the table's. -/
theorem MarksWellFormed.map {ms : List Mark} (h : MarksWellFormed ms) {f : Mark → Mark}
    (number : ∀ m, (f m).number = m.number) (form : ∀ m ∈ ms, m.InForm → (f m).InForm) :
    MarksWellFormed (ms.map f) := by
  obtain ⟨order, own⟩ := marksWellFormed_iff.mp h
  refine marksWellFormed_iff.mpr ⟨List.pairwise_map.mpr (by simpa only [number] using order), fun k hk => ?_⟩
  obtain ⟨m, hm, rfl⟩ := List.mem_map.mp hk
  exact form m hm (own m hm)

/-- One mark changed, its number and its form kept. -/
theorem MarksWellFormed.change {ms : List Mark} (h : MarksWellFormed ms) {n : Nat} {f : Mark → Mark}
    (number : ∀ m, (f m).number = m.number) (form : ∀ m ∈ ms, m.number = n → m.InForm → (f m).InForm) :
    MarksWellFormed (changeMark n f ms) := by
  refine h.map (fun m => ?_) (fun m hm own => ?_)
  · split
    · exact number m
    · rfl
  · split
    · next hn => exact form m hm hn own
    · exact own

theorem mem_insertMark {m k : Mark} {ms : List Mark} : k ∈ insertMark m ms ↔ k = m ∨ k ∈ ms := by
  induction ms with
  | nil => simp [insertMark]
  | cons q rest ih =>
    unfold insertMark
    split
    · simp
    · rw [List.mem_cons, ih, List.mem_cons]
      tauto

/-- A mark in form enters under a free number (R130). -/
theorem MarksWellFormed.insert {ms : List Mark} (h : MarksWellFormed ms) {m : Mark} (hm : m.InForm)
    (free : markAt ms m.number = none) : MarksWellFormed (insertMark m ms) := by
  obtain ⟨order, form⟩ := marksWellFormed_iff.mp h
  refine marksWellFormed_iff.mpr ⟨?_, fun k hk => ?_⟩
  · clear h form
    induction ms with
    | nil => simp [insertMark]
    | cons q rest ih =>
      obtain ⟨first, later⟩ := List.pairwise_cons.mp order
      rw [markAt_cons] at free
      split at free
      · cases free
      · next other =>
        unfold insertMark
        split
        · next lt =>
          refine List.pairwise_cons.mpr ⟨fun k hk => ?_, order⟩
          rcases List.mem_cons.mp hk with rfl | hk
          · exact lt
          · exact lt.trans (first k hk)
        · next ge =>
          refine List.pairwise_cons.mpr ⟨fun k hk => ?_, ih free later⟩
          rcases mem_insertMark.mp hk with rfl | hk
          · omega
          · exact first k hk
  · rcases mem_insertMark.mp hk with rfl | hk
    · exact hm
    · exact form k hk

theorem newMark_inForm (spans : List Span) (port : Port) {n : Nat} (hn : n < Config.maxMarks) (a trim : Int) :
    (newMark spans port n a trim).InForm :=
  ⟨hn, (clampTrim_range trim).1, (clampTrim_range trim).2, fun _ => rfl⟩

/-- The fields of a mark that R130 to R133 hold in form; its address and its resolution stand outside them. -/
theorem Mark.InForm.congr {m k : Mark} (h : m.InForm) (number : k.number = m.number) (trim : k.trim = m.trim)
    (owner : k.owner = m.owner) (lock : k.lock = m.lock) : k.InForm := by
  unfold Mark.InForm
  rw [number, trim, owner, lock]
  exact h

theorem Mark.moveTo_inForm {m : Mark} (h : m.InForm) (spans : List Span) (a : Int) : (m.moveTo spans a).InForm := by
  unfold Mark.moveTo
  split
  · exact h
  · exact h.congr rfl rfl rfl rfl

/-- A confirmation writes the resolution alone (R138). -/
theorem Mark.confirmedBy_fields (w : Int) (r : Stamp) (m : Mark) :
    (m.confirmedBy w r).number = m.number ∧ (m.confirmedBy w r).address = m.address
      ∧ (m.confirmedBy w r).trim = m.trim ∧ (m.confirmedBy w r).owner = m.owner
      ∧ (m.confirmedBy w r).lock = m.lock := by
  unfold Mark.confirmedBy
  split
  · split <;> exact ⟨rfl, rfl, rfl, rfl, rfl⟩
  · exact ⟨rfl, rfl, rfl, rfl, rfl⟩

theorem MarksWellFormed.mapEvent {s : State} (h : MarksWellFormed s.marks) (e : Learned) :
    MarksWellFormed (s.mapEvent e).marks := by
  rw [mapEvent_marks_eq]
  exact h.map (fun _ => rfl) (fun _ _ own => own.congr rfl rfl rfl rfl)

theorem writeParam_marks (s : State) (n : Nat) (v : Int) : (s.writeParam n v).marks = s.marks := by
  unfold State.writeParam
  dsimp only
  split_ifs <;> rfl

/-- Every move keeps the form of the mark table. -/
theorem Move.marksWellFormed {s t : State} (h : Move s t) (hs : MarksWellFormed s.marks) : MarksWellFormed t.marks := by
  cases h with
  | aside h => rw [h.marks]; exact hs
  | learn r => exact hs.mapEvent _
  | flush => exact hs.mapEvent _
  | newMark port n a trim hn free => exact hs.insert (newMark_inForm _ _ hn ..) free
  | moveMark n a => exact hs.change (fun m => Mark.moveTo_number _ _ m) (fun _ _ _ own => Mark.moveTo_inForm own ..)
  | trimMark n trim =>
    refine hs.change (fun _ => rfl) (fun m _ _ own => ?_)
    obtain ⟨number, -, -, lock⟩ := own
    exact ⟨number, (clampTrim_range trim).1, (clampTrim_range trim).2, lock⟩
  | lockMark n lock unowned =>
    refine hs.change (fun _ => rfl) (fun m hm hn own => ?_)
    obtain ⟨number, low, high, -⟩ := own
    refine ⟨number, low, high, fun (owner : m.owner = .studio) => ?_⟩
    simp [studioOwned, ← hn, hs.markAt_of_mem hm, owner] at unowned
  | retireMarks kept => exact hs.filter kept
  | confirmMarks w r =>
    refine hs.map (fun m => (Mark.confirmedBy_fields w r m).1) (fun m _ own => ?_)
    obtain ⟨number, -, trim, owner, lock⟩ := Mark.confirmedBy_fields w r m
    exact own.congr number trim owner lock
  | param n row v _ => rw [writeParam_marks]; exact hs
  | reset l => exact marksWellFormed_nil
  | _ => exact hs

/-- Settles O21: every move keeps the form, an insertion by its free number and a lock by the owner it tests. -/
theorem marksStayWellFormed : Obligations.MarksStayWellFormed :=
  fun s t h => step_keeps (P := fun u => MarksWellFormed u.marks) (fun _ _ m => m.marksWellFormed) s t h

/-! ## The resolutions (R134 to R136)

An announcement resolves every mark afresh. What has to be shown is that an event that announces nothing leaves every
resolution as it was: it may open or close a span and count an anchor, but moves no span. -/

/-- A span with what no resolution reads set aside. -/
def Span.bare (p : Span) : Span := { p with anchors := 0, isOpen := false, startKind := .edge, lastKind := .edge }

/-- A resolution reads the translations of the spans alone (R134). -/
theorem resolve_bare (spans : List Span) (a : Int) : resolve (spans.map Span.bare) a = resolve spans a := by
  have same : (fun p : Span => p.hasAddress a) ∘ Span.bare = fun p => p.hasAddress a := rfl
  unfold resolve
  rw [List.filter_map, same]
  generalize spans.filter (fun p => p.hasAddress a) = found
  match found with
  | [] | [p] => rfl
  | p :: q :: rest => simp [Span.bare, Function.comp_def]

theorem resolve_congr {l l' : List Span} (h : l'.map Span.bare = l.map Span.bare) (a : Int) :
    resolve l' a = resolve l a := by
  rw [← resolve_bare l', h, resolve_bare]

theorem insertSpan_map_bare (p : Span) (l : List Span) :
    (insertSpan p l).map Span.bare = insertSpan p.bare (l.map Span.bare) := by
  induction l with
  | nil => rfl
  | cons q rest ih =>
    have start (k : Span) : k.bare.startLen = k.startLen := rfl
    simp only [insertSpan, List.map_cons, start]
    split
    · rfl
    · rw [List.map_cons, ih]

/-- A span of the list taken out and put back in its place (R110). -/
theorem SpansWellFormed.insertSpan_filter {l : List Span} (h : SpansWellFormed l) {p : Span} (hp : p ∈ l) :
    insertSpan p (l.filter (fun q => q.num != p.num)) = l := by
  obtain ⟨form, order⟩ := spansWellFormed_iff.mp h
  clear h
  induction l with
  | nil => cases hp
  | cons k rest ih =>
    obtain ⟨first, later⟩ := List.pairwise_cons.mp order
    rcases List.mem_cons.mp hp with rfl | hp
    · have others : rest.filter (fun q => q.num != p.num) = rest :=
        List.filter_eq_self.mpr fun q hq => bne_iff_ne.mpr (first q hq).2.1.symm
      rw [List.filter_cons_of_neg (p := fun q : Span => q.num != p.num) (by simp), others]
      cases rest with
      | nil => rfl
      | cons q _ =>
        have := (first q List.mem_cons_self).1
        have := (form p List.mem_cons_self).1
        exact if_pos (by omega)
    · obtain ⟨lt, other, -⟩ := first p hp
      have := (form k (by simp)).1
      rw [List.filter_cons_of_pos (p := fun q : Span => q.num != p.num) (by simpa using other), insertSpan,
        if_neg (by omega), ih hp (fun q hq => form q (List.mem_cons_of_mem k hq)) later]

theorem closeOpen_bare (m : MapUnit) (kind : EdgeKind) :
    (m.closeOpen kind).spans.map Span.bare = m.spans.map Span.bare := by
  have same (p : Span) : (p.closedBy kind m.growing).bare = p.bare := by
    rw [Span.closedBy_eq]
    split <;> rfl
  rw [closeOpen_spans, List.map_map]
  exact List.map_congr_left fun p _ => same p

/-- A report taken without an extension counts an anchor alone (R113). -/
theorem take_bare_of_unchanged {p : Span} {g : Option SpanEdge} {r : Stamp} (h : (p.take g r).2.2 = []) :
    (p.take g r).1.bare = p.bare := by
  unfold Span.take at h ⊢
  dsimp only at h ⊢
  split_ifs at h ⊢
  · cases h
  · cases h
  · rfl

theorem keep_changes_ne_nil (w : Resolving) (x : Span) : (w.keep x).changes ≠ [] := by
  unfold Resolving.keep
  split <;> simp

theorem keepUpper_changes_ne_nil (w : Resolving) (rest : List Span) (x : Span) : (w.keepUpper rest x).changes ≠ [] := by
  unfold Resolving.keepUpper
  split <;> simp

/-- A neighbour resolved without a change stays as it is (R117). -/
theorem Resolving.step_of_unchanged {w : Resolving} {rest : List Span} {q : Span}
    (h : (w.step rest q).changes = []) : w.step rest q = { w with done := w.done ++ [q] } := by
  unfold Resolving.step at h ⊢
  dsimp only at h ⊢
  split at h
  · next apart => exact if_pos apart
  · exfalso
    split at h
    · simp [Resolving.merge, mergeChanges] at h
    · split at h
      · split at h
        · exact keepUpper_changes_ne_nil _ _ _ h
        · exact keep_changes_ne_nil _ _ h
      · split at h
        · exact keep_changes_ne_nil _ _ h
        · simp at h

theorem Resolving.run_of_unchanged {w : Resolving} {l : List Span} (h : (w.run l).changes = []) :
    w.run l = { w with done := w.done ++ l } := by
  induction l generalizing w with
  | nil => simp [Resolving.run]
  | cons q rest ih =>
    have later : (w.step rest q).run rest = _ := ih h
    have unchanged : ((w.step rest q).run rest).changes = [] := h
    rw [later] at unchanged
    rw [Resolving.run, later, Resolving.step_of_unchanged unchanged]
    simp

/-- An event that moves a span of the list announces a change (R124). -/
def Learned.AnnouncesMoves (e : Learned) (l : List Span) : Prop :=
  e.changes = [] → e.map.spans.map Span.bare = l.map Span.bare

/-- The OPEN span takes a report, its list being itself among the others (R113, R117). -/
theorem openTakes_announcesMoves (m : MapUnit) (p : Span) (g : Option SpanEdge) (others : List Span) (r : Stamp) :
    (m.openTakes p g others r).AnnouncesMoves (insertSpan p others) := by
  intro h
  obtain ⟨taken, resolved⟩ : (p.take g r).2.2 = []
      ∧ (resolveOverlaps (p.take g r).1 (p.take g r).2.1 others).changes = [] :=
    List.append_eq_nil_iff.mp h
  have run : resolveOverlaps (p.take g r).1 (p.take g r).2.1 others = _ := Resolving.run_of_unchanged resolved
  have spans : (m.openTakes p g others r).map.spans = insertSpan (p.take g r).1 others := by
    simp only [MapUnit.openTakes, run, Resolving.finish, List.nil_append]
  rw [spans, insertSpan_map_bare, insertSpan_map_bare, take_bare_of_unchanged taken]

/-- The CLOSED spans are those with other numbers than the OPEN one's (R110). -/
theorem closed_eq_filter_num {m : MapUnit} (h : SpansWellFormed m.spans) {p : Span} (hp : p ∈ m.spans)
    (opened : p.isOpen = true) : m.closed = m.spans.filter (fun q => q.num != p.num) := by
  have symm : Std.Symm fun p q : Span => ¬(p.isOpen = true ∧ q.isOpen = true) := ⟨fun _ _ h k => h k.symm⟩
  have ⟨_, _, _, single⟩ := h
  refine List.filter_congr fun q hq => ?_
  by_cases same : q = p
  · simp [same, opened]
  · have closed : q.isOpen = false := by simpa [opened] using single.forall hq hp same
    simpa [closed] using h.num_ne hq hp same

theorem mem_closed_of_covering {m : MapUnit} {r : Stamp} {q : Span} (h : m.covering r = some q) :
    q ∈ m.spans ∧ q.isOpen = false := by
  rcases foldl_choice_mem (fun _ _ _ => betterCover_eq) h with h | h
  · simpa [MapUnit.closed] using (List.mem_filter.mp h).1
  · cases h

/-- A covering span reopened: the list is the one with the OPEN span closed (R114). -/
theorem reopen_announcesMoves {m : MapUnit} (h : SpansWellFormed m.spans) {q : Span} {r : Stamp}
    (hq : m.covering r = some q) : (m.reopen q r).AnnouncesMoves m.spans := by
  obtain ⟨mem, closed⟩ := mem_closed_of_covering hq
  have stays : q ∈ (m.closeOpen .jump).spans := by
    rw [closeOpen_spans]
    exact List.mem_map.mpr ⟨q, mem, if_neg (by simp [closed])⟩
  have opened : Span.bare { q with isOpen := true } = q.bare := rfl
  intro unchanged
  calc (m.reopen q r).map.spans.map Span.bare
      = (insertSpan { q with isOpen := true }
          ((m.closeOpen .jump).spans.filter (fun p => p.num != q.num))).map Span.bare :=
        openTakes_announcesMoves _ _ _ _ _ unchanged
    _ = (insertSpan q ((m.closeOpen .jump).spans.filter (fun p => p.num != q.num))).map Span.bare := by
        rw [insertSpan_map_bare, insertSpan_map_bare, opened]
    _ = (m.closeOpen .jump).spans.map Span.bare := by rw [(h.closeOpen _).insertSpan_filter stays]
    _ = m.spans.map Span.bare := closeOpen_bare m .jump

/-- A creation announces its new span; without a number for one the OPEN span closes (R116, R123). -/
theorem create_announcesMoves (m : MapUnit) (c r : Stamp) : (m.create c r []).AnnouncesMoves m.spans := by
  unfold MapUnit.create
  dsimp only
  split
  · exact fun _ => closeOpen_bare m .jump
  · exact fun unchanged => absurd unchanged (by simp [Resolving.finish])

/-- An eviction is announced, whatever the creation after it does (R122, R124). -/
theorem create_changes_ne_nil (m : MapUnit) (c r : Stamp) (e : Change) : (m.create c r [e]).changes ≠ [] := by
  unfold MapUnit.create
  dsimp only
  split <;> simp [Resolving.finish]

/-- Learning announces every move of a span (R112, R124). -/
theorem learn_announcesMoves {m : MapUnit} (h : SpansWellFormed m.spans) (held : Nat → Bool) (head : Int) (r : Stamp) :
    (m.learn held head r).AnnouncesMoves m.spans := by
  unfold MapUnit.learn
  dsimp only
  split
  · next p taken =>
    obtain ⟨mem, opened⟩ := mem_of_openSpan (Option.eq_some_of_filter_eq_some taken)
    have back : insertSpan p m.closed = m.spans := by rw [closed_eq_filter_num h mem opened, h.insertSpan_filter mem]
    have moves := openTakes_announcesMoves { m with gapCount := 0 } p m.growing m.closed r
    rw [back] at moves
    exact moves
  · split
    · next q covers => exact reopen_announcesMoves (m := { m with gapCount := 0 }) h covers
    · split
      · unfold MapUnit.createOrFull
        split
        · exact create_announcesMoves { m with gapCount := 0 } _ r
        · split
          · exact fun _ => rfl
          · exact fun unchanged => create_changes_ne_nil _ _ _ _ unchanged |>.elim
      · exact fun _ => rfl

theorem unconfirmed_resolve (spans : List Span) (a : Int) : (resolve spans a).unconfirmed = resolve spans a := by
  unfold resolve
  split <;> rfl

/-- An announcement leaves every mark as R134 resolves it (R135, R136). -/
theorem reResolve_unconfirmed (spans : List Span) (changes : List Change) (a : Int) (old : Resolution) :
    (reResolve spans changes a old).unconfirmed = resolve spans a := by
  unfold reResolve
  split
  · next found =>
    rw [found]
    split <;> rfl
  · exact unconfirmed_resolve spans a

theorem Mark.confirmedBy_unconfirmed (w : Int) (r : Stamp) (m : Mark) :
    (m.confirmedBy w r).resolution.unconfirmed = m.resolution.unconfirmed := by
  unfold Mark.confirmedBy
  split
  · next resolved =>
    split
    · rw [resolved]; rfl
    · rfl
  · rfl

/-- Marks resolved against one list stand against another whose spans translate alike. -/
theorem MarksResolved.congr {s t : State} (h : MarksResolved s) (marks : t.marks = s.marks)
    (spans : t.map.spans.map Span.bare = s.map.spans.map Span.bare) : MarksResolved t := by
  intro m hm
  rw [marks] at hm
  rw [resolve_congr spans]
  exact h m hm

theorem MarksResolved.setMarks {s : State} {ms : List Mark}
    (h : ∀ m ∈ ms, m.resolution.unconfirmed = resolve s.map.spans m.address) : MarksResolved (s.setMarks ms) := h

/-- A map event that announces what it moves (R124) keeps the marks resolved. -/
theorem MarksResolved.mapEvent {s : State} (h : MarksResolved s) (e : Learned)
    (announced : e.AnnouncesMoves s.map.spans) :
    MarksResolved (s.mapEvent e) := by
  by_cases unchanged : e.changes = []
  · exact h.congr (by rw [mapEvent_marks, if_pos unchanged]) (by rw [mapEvent_map]; exact announced unchanged)
  · intro m hm
    rw [mapEvent_marks, if_neg unchanged] at hm
    obtain ⟨k, -, rfl⟩ := List.mem_map.mp hm
    rw [mapEvent_map]
    exact reResolve_unconfirmed ..

/-- Marks changed under one number, each left resolved. -/
theorem MarksResolved.change {s : State} (h : MarksResolved s) {n : Nat} {f : Mark → Mark}
    (hf : ∀ m, m.resolution.unconfirmed = resolve s.map.spans m.address →
      (f m).resolution.unconfirmed = resolve s.map.spans (f m).address) :
    MarksResolved (s.setMarks (changeMark n f s.marks)) := by
  refine .setMarks fun k hk => ?_
  obtain ⟨m, hm, rfl⟩ := List.mem_map.mp hk
  split
  · exact hf m (h m hm)
  · exact h m hm

/-- Every move keeps every mark as R134 resolves it, in a span list in form. -/
theorem Move.marksResolved {s t : State} (h : Move s t) (form : SpansWellFormed s.map.spans) (hs : MarksResolved s) :
    MarksResolved t := by
  cases h with
  | aside h => exact hs.congr h.marks (by rw [h.map])
  | transport new dest =>
    refine hs.congr rfl ?_
    show (s.map.onChange s.seq.transport new).spans.map Span.bare = _
    unfold MapUnit.onChange
    split
    · exact closeOpen_bare s.map .edge
    · rfl
  | learn r => exact hs.mapEvent _ (learn_announcesMoves form _ _ _)
  | flush => exact hs.mapEvent _ fun unchanged => by rw [flush_changes_eq_nil_iff.mp unchanged]; rfl
  | countGap b =>
    refine hs.congr rfl ?_
    show (s.map.countGap b).spans.map Span.bare = _
    unfold MapUnit.countGap
    split <;> rfl
  | closeOpen => exact hs.congr rfl (closeOpen_bare s.map .edge)
  | newMark port n a trim _ _ =>
    refine .setMarks fun m hm => ?_
    rcases mem_insertMark.mp hm with rfl | hm
    · exact unconfirmed_resolve ..
    · exact hs m hm
  | moveMark n a =>
    refine hs.change fun m resolved => ?_
    unfold Mark.moveTo
    split
    · exact resolved
    · exact unconfirmed_resolve ..
  | trimMark n trim => exact hs.change fun _ => id
  | lockMark n lock _ => exact hs.change fun _ => id
  | retireMarks kept => exact .setMarks fun m hm => hs m (List.mem_filter.mp hm).1
  | confirmMarks w r =>
    refine .setMarks fun k hk => ?_
    obtain ⟨m, hm, rfl⟩ := List.mem_map.mp hk
    obtain ⟨-, address, -⟩ := Mark.confirmedBy_fields w r m
    rw [Mark.confirmedBy_unconfirmed, address]
    exact hs m hm
  | param n row v _ =>
    obtain ⟨-, -, map, -⟩ := writeParam_frame s n (paramStored n row v)
    exact hs.congr (writeParam_marks ..) (by rw [map])
  | reset l => exact fun m hm => nomatch hm
  | _ => exact hs.congr rfl rfl

/-- Settles O22: the form of the span list is kept beside the resolutions, which need it where a report changes
nothing. -/
theorem marksStayResolved : Obligations.MarksStayResolved := by
  intro s t h form hs
  have kept := step_keeps (P := fun u => SpansWellFormed u.map.spans ∧ MarksResolved u)
    (fun _ _ m ⟨form, hs⟩ => ⟨m.spansWellFormed form, m.marksResolved form hs⟩) s t h ⟨form, hs⟩
  exact kept.2

/-! ## What no path but the requests does to a mark (R131, R135, R138)

Every operation outside the mark requests leaves each mark its record: an announcement and a confirmation write the
resolution alone. -/

/-- A mark with its resolution set aside. -/
def Mark.record (m : Mark) : Nat × Int × Int × Port × Bool := (m.number, m.address, m.trim, m.owner, m.lock)

section Records

variable (s : State)

@[simp] theorem mapEvent_records (e : Learned) : (s.mapEvent e).marks.map Mark.record = s.marks.map Mark.record :=
  mapEvent_marks_records s e

theorem confirmedBy_record (w : Int) (r : Stamp) : Mark.record ∘ Mark.confirmedBy w r = Mark.record := by
  funext m
  obtain ⟨number, address, trim, owner, lock⟩ := Mark.confirmedBy_fields w r m
  simp only [Function.comp_apply, Mark.record, number, address, trim, owner, lock]

/-! ### Sequencer and arbiter -/

@[simp] theorem enterUnthreaded_records : s.enterUnthreaded.marks.map Mark.record = s.marks.map Mark.record := by
  simp [State.enterUnthreaded]

@[simp] theorem enterUnthreading_marks : s.enterUnthreading.marks = s.marks := by simp [State.enterUnthreading]

@[simp] theorem choosePhase_marks (b : Bool) (back : LocatePhase) (r : LocateRecord) :
    (s.choosePhase b back r).marks = s.marks := by
  unfold State.choosePhase
  split <;> simp

@[simp] theorem startLocate_marks (b : Bool) (t : LocateTarget) : (s.startLocate b t).marks = s.marks := by
  simp [State.startLocate]

@[simp] theorem enterChase_marks (p : ChasePhase) (l : Int) : (s.enterChase p l).marks = s.marks := by
  simp [State.enterChase]

@[simp] theorem grantChase_marks : s.grantChase.marks = s.marks := by
  unfold State.grantChase
  dsimp only
  split <;> simp

@[simp] theorem examineChase_marks : s.examineChase.marks = s.marks := by
  unfold State.examineChase
  split <;> simp

@[simp] theorem startUnthread_marks : s.startUnthread.marks = s.marks := by
  unfold State.startUnthread
  split
  case h_5 => split <;> simp
  all_goals simp

@[simp] theorem startPlay_marks (how : StartKind) : (s.startPlay how).marks = s.marks := by
  unfold State.startPlay
  split <;> simp

@[simp] theorem startThread_marks (a b : Int) : (s.startThread a b).marks = s.marks := rfl

@[simp] theorem startClearFault_records : s.startClearFault.marks.map Mark.record = s.marks.map Mark.record := by
  unfold State.startClearFault
  dsimp only
  split <;> simp

/-- A motion handed over leaves the records; CLEAR_FAULT alone may flush the map (R79, R81). -/
@[simp] theorem handOver_records (how : StartKind) (h : Held) :
    (s.handOver how h).marks.map Mark.record = s.marks.map Mark.record := by
  unfold State.handOver
  split <;> simp

@[simp] theorem start_records (how : StartKind) (h : Held) :
    (s.start how h).marks.map Mark.record = s.marks.map Mark.record := by
  simp [State.start]

@[simp] theorem tryStart_records (how : StartKind) (h : Held) :
    (s.tryStart how h).1.marks.map Mark.record = s.marks.map Mark.record := by
  unfold State.tryStart
  split <;> simp

@[simp] theorem hold_marks (h : Held) : (s.hold h).1.marks = s.marks := by simp [State.hold]

@[simp] theorem judgeActive_records (h : Held) :
    (s.judgeActive h).1.marks.map Mark.record = s.marks.map Mark.record := by
  unfold State.judgeActive
  split
  · simp
  · split_ifs <;> simp

@[simp] theorem judgeStarting_records (h : Held) :
    (s.judgeStarting h).1.marks.map Mark.record = s.marks.map Mark.record := by
  unfold State.judgeStarting
  split <;> simp

@[simp] theorem panelInChase_records (h : Held) :
    (s.panelInChase h).1.marks.map Mark.record = s.marks.map Mark.record := by
  unfold State.panelInChase
  split <;> simp

@[simp] theorem chasePhase_marks (p : ChasePhase) : (s.chasePhase p).marks = s.marks := by simp [State.chasePhase]

@[simp] theorem chaseLocate_marks (h : Held) : (s.chaseLocate h).1.marks = s.marks := by
  unfold State.chaseLocate
  split <;> simp

@[simp] theorem chasePlay_marks (p : ChasePhase) : (s.chasePlay p).1.marks = s.marks := by
  unfold State.chasePlay
  split
  case h_1 => split <;> simp
  all_goals simp

@[simp] theorem chaseStop_marks (p : ChasePhase) : (s.chaseStop p).1.marks = s.marks := by
  unfold State.chaseStop
  split <;> simp

@[simp] theorem studioInChase_marks (p : ChasePhase) (h : Held) : (s.studioInChase p h).1.marks = s.marks := by
  unfold State.studioInChase
  split
  case h_4 | h_5 | h_6 | h_7 => split <;> simp
  all_goals simp

@[simp] theorem stopThreading_marks : s.stopThreading.marks = s.marks := by
  unfold State.stopThreading
  split <;> simp

@[simp] theorem stopMeasuring_marks (p : MeasurePhase) : (s.stopMeasuring p).marks = s.marks := by
  unfold State.stopMeasuring
  split <;> simp

@[simp] theorem judge_records (h : Held) : (s.judge h).1.marks.map Mark.record = s.marks.map Mark.record := by
  unfold State.judge
  split
  case h_3 | h_4 | h_5 | h_6 | h_11 => split_ifs <;> simp
  case h_12 => split <;> simp
  all_goals simp

theorem popReturn_marks {h k : Held} {t : State} (popped : s.popReturn h = some (k, t)) : t.marks = s.marks := by
  unfold State.popReturn at popped
  split at popped
  · split at popped <;> cases popped
    exact setReturns_marks s _
  · cases popped
    rfl

@[simp] theorem motion_records (p : Port) (req : MotionReq) :
    (s.motion p req).1.marks.map Mark.record = s.marks.map Mark.record := by
  unfold State.motion
  split
  · rfl
  · unfold State.motionFromStateTest
    split
    · rfl
    · split
      · rfl
      · next popped => rw [judge_records, popReturn_marks s popped]

@[simp] theorem judgeHeld_records (h : Held) :
    (s.judgeHeld h).1.marks.map Mark.record = s.marks.map Mark.record := by
  unfold State.judgeHeld
  split <;> simp

@[simp] theorem judgeSlot_records : s.judgeSlot.marks.map Mark.record = s.marks.map Mark.record := by
  unfold State.judgeSlot
  split
  · rfl
  · dsimp only
    split <;> simp

@[simp] theorem enterStopped_records : s.enterStopped.marks.map Mark.record = s.marks.map Mark.record := by
  simp [State.enterStopped]

/-! ### Protection -/

@[simp] theorem endByProtection_marks : s.endByProtection.marks = s.marks := by
  unfold State.endByProtection
  dsimp only
  split <;> simp

@[simp] theorem stopDemand_marks : s.stopDemand.marks = s.marks := by
  unfold State.stopDemand
  split <;> simp [State.enterProtectStop]

@[simp] theorem faultDemand_marks : s.faultDemand.marks = s.marks := by
  unfold State.faultDemand
  split <;> simp [State.enterFaulted]

/-- A cause taken leaves the marks as they stand (R175 to R184). -/
@[simp] theorem takeCause_marks (c : Cause) (a : CauseAxis) : (s.takeCause c a).marks = s.marks := by
  unfold State.takeCause
  dsimp only
  split_ifs <;> simp

@[simp] theorem takeCauseIf_marks (b : Bool) (c : Cause) (a : CauseAxis) : (s.takeCauseIf b c a).marks = s.marks := by
  unfold State.takeCauseIf
  split <;> simp

@[simp] theorem takeDue_marks (d : Due) : (s.takeDue d).marks = s.marks := by
  unfold State.takeDue
  split <;> simp

@[simp] theorem takeCatches_marks : s.takeCatches.marks = s.marks := by
  unfold State.takeCatches
  generalize s.due.filter _ = ds
  induction ds generalizing s with
  | nil => rfl
  | cons d ds ih => rw [List.foldl_cons, ih, takeDue_marks]

/-! ### The run of a locate -/

@[simp] theorem completeLocate_records (v : Bool) :
    (s.completeLocate v).marks.map Mark.record = s.marks.map Mark.record := by
  unfold State.completeLocate
  dsimp only
  split <;> simp

@[simp] theorem failLocate_marks (o : LocateOutcome) : (s.failLocate o).marks = s.marks :=
  (failLocate_frame s o).2.2.2

@[simp] theorem missLocate_marks (r : LocateRecord) : (s.missLocate r).marks = s.marks := by
  unfold State.missLocate
  split <;> simp

@[simp] theorem headFor_marks (b : Bool) (r : LocateRecord) : (s.headFor b r).marks = s.marks := by
  unfold State.headFor
  dsimp only
  split <;> simp

@[simp] theorem pointReached_records : s.pointReached.marks.map Mark.record = s.marks.map Mark.record := by
  unfold State.pointReached
  split
  case h_1 | h_2 => split <;> simp [State.enterApproach]
  case h_3 => simp [State.enterVerify]
  case h_4 => rfl

@[simp] theorem handReport_marks (p : Stamp) : (s.handReport p).marks = s.marks := by
  unfold State.handReport
  dsimp only
  split <;> simp

@[simp] theorem verifyExpiry_records : s.verifyExpiry.marks.map Mark.record = s.marks.map Mark.record := by
  have evaluated (r : LocateRecord) : (s.evaluateVerify r).marks.map Mark.record = s.marks.map Mark.record := by
    unfold State.evaluateVerify State.passWithoutReports
    dsimp only
    split <;> split <;> simp
  unfold State.verifyExpiry
  split
  · rfl
  · split
    · exact evaluated _
    · rfl

/-! ### Reports, counts, periods and lines -/

@[simp] theorem addressReport_records (a : Int) :
    (s.addressReport a).marks.map Mark.record = s.marks.map Mark.record := by
  unfold State.addressReport
  split
  · rfl
  · split
    · simp [State.takeReport, confirmedBy_record]
    · rfl

@[simp] theorem discardLink_marks : s.discardLink.marks = s.marks := by
  unfold State.discardLink
  split <;> simp

@[simp] theorem rollerCount_marks (d : Sense) : (s.rollerCount d).marks = s.marks := by simp [State.rollerCount]

@[simp] theorem estimateReel_marks (r : Reel) (u : Turn) : (s.estimateReel r u).marks = s.marks := by
  unfold State.estimateReel State.geometryMeasured
  dsimp only
  split
  · split <;> simp
  · simp

@[simp] theorem reelCount_marks (r : Reel) (u : Turn) : (s.reelCount r u).marks = s.marks := by
  unfold State.reelCount
  dsimp only
  split <;> simp

@[simp] theorem threadingTest_marks : s.threadingTest.marks = s.marks := by
  unfold State.threadingTest State.tensionEstablished
  split
  · split
    · split_ifs <;> simp
    · simp
  · rfl

/-- A servo period leaves the records; the second release alone flushes the map (R81). -/
@[simp] theorem axisServoPeriod_records (r : Reel) (arm : Int) :
    (s.axisServoPeriod r arm).marks.map Mark.record = s.marks.map Mark.record := by
  unfold State.axisServoPeriod
  dsimp only
  split <;> simp

@[simp] theorem sampleSwitch_marks (w : Switch) : (s.sampleSwitch w).marks = s.marks := by
  unfold State.sampleSwitch
  dsimp only
  split <;> simp

@[simp] theorem restReached_records : s.restReached.marks.map Mark.record = s.marks.map Mark.record := by
  unfold State.restReached
  split
  case h_1 => split <;> simp
  case h_3 => split <;> simp [State.chaseFromRest]
  all_goals simp

@[simp] theorem generatorPeriod_records (w : Switch) :
    (s.generatorPeriod w).marks.map Mark.record = s.marks.map Mark.record := by
  unfold State.generatorPeriod State.generatorTests
  split_ifs <;> simp

@[simp] theorem threadingLoss_marks : s.threadingLoss.marks = s.marks := by
  unfold State.threadingLoss
  split <;> simp

@[simp] theorem measuringLoss_marks : s.measuringLoss.marks = s.marks := by
  unfold State.measuringLoss
  split <;> simp

@[simp] theorem leaderChange_marks (l : Leader) (b : Bool) : (s.leaderChange l b).marks = s.marks := by
  have halts (u : State) : u.endOfTapeHalt.marks = u.marks := by
    unfold State.endOfTapeHalt
    split <;> simp
  unfold State.leaderChange State.leaderAppears State.leaderCause
  dsimp only
  split_ifs <;> simp [halts]

@[simp] theorem chaseRise_marks : s.chaseRise.marks = s.marks := by
  unfold State.chaseRise
  dsimp only
  split <;> simp

@[simp] theorem chaseFall_marks : s.chaseFall.marks = s.marks := by
  unfold State.chaseFall
  dsimp only
  split <;> simp [State.startRelease]

end Records

/-- A command other than the two frames and the reset leaves every mark its record (R131). -/
theorem exec_records {c : Instr} {s t : State} (h : exec c s = .next t) (panel : ∀ mosi w, c ≠ .panelDeassertion mosi w)
    (studio : ∀ frame w, c ≠ .studioFrameArrival frame w) (reset : ∀ l, c ≠ .deviceReset l) :
    t.marks.map Mark.record = s.marks.map Mark.record := by
  have guarded {u v : State} (p : Prop) [Decidable p] (hv : v.marks.map Mark.record = u.marks.map Mark.record) :
      (if p then v else u).marks.map Mark.record = u.marks.map Mark.record := by
    split
    · exact hv
    · rfl
  rw [← takeCatches_marks s]
  cases c <;> cases h
  case panelDeassertion mosi w => exact absurd rfl (panel mosi w)
  case studioFrameArrival frame w => exact absurd rfl (studio frame w)
  case deviceReset l => exact absurd rfl (reset l)
  case addressLinkFrame => split <;> simp
  case chaseRequestRise => split <;> simp
  case lostSync | gapCountLimit | threadingTimerExpiry | measuringTimerExpiry | settleTimerExpiry | engageTimerExpiry
      | verifyTimerExpiry | chaseRequestFall => exact guarded _ (by simp)
  all_goals simp [State.extStopChange]

/-! ## Locked PANEL marks against the studio port (R132, R145, R194) -/

/-- Each locked PANEL mark of a state is held by another with the same record. -/
def LockedKept (s t : State) : Prop :=
  ∀ m ∈ s.marks, m.owner = .panel → m.lock = true → ∃ k ∈ t.marks, k.record = m.record

theorem record_eq_iff {m k : Mark} :
    k.record = m.record ↔ k.number = m.number ∧ k.address = m.address ∧ k.trim = m.trim ∧ k.owner = m.owner
      ∧ k.lock = m.lock := by
  simp [Mark.record]

theorem LockedKept.trans {s t u : State} (h : LockedKept s t) (k : LockedKept t u) : LockedKept s u := by
  intro m hm owner lock
  obtain ⟨x, hx, same⟩ := h m hm owner lock
  obtain ⟨-, -, -, sameOwner, sameLock⟩ := record_eq_iff.mp same
  obtain ⟨y, hy, again⟩ := k x hx (sameOwner.trans owner) (sameLock.trans lock)
  exact ⟨y, hy, again.trans same⟩

theorem LockedKept.of_records {s t : State} (h : t.marks.map Mark.record = s.marks.map Mark.record) :
    LockedKept s t := by
  intro m hm _ _
  have found : m.record ∈ t.marks.map Mark.record := h ▸ List.mem_map_of_mem hm
  exact List.mem_map.mp found

/-- Locked PANEL marks that stay in the table as they are. -/
theorem LockedKept.of_mem {s t : State} (h : ∀ m ∈ s.marks, m.owner = .panel → m.lock = true → m ∈ t.marks) :
    LockedKept s t := fun m hm owner lock => ⟨m, h m hm owner lock, rfl⟩

theorem LockedKept.refl (s : State) : LockedKept s s := .of_records rfl

theorem LockedKept.underTests {s : State} {tests : List (Bool × Status)} {act : State → Carried}
    (h : firstFailure tests = none → LockedKept s (act s).state) : LockedKept s (underTests tests act s).state := by
  unfold Machine.underTests
  split
  · exact .refl s
  · next passed => exact h passed

/-- Past the test of R132 a locked mark has another number than the one that a studio request names. -/
theorem number_ne_of_passed {s : State} (hs : MarksWellFormed s.marks) {m : Mark} (hm : m ∈ s.marks)
    (lock : m.lock = true) {n : Nat} (passed : lockedAgainst .studio s.marks n = false) : m.number ≠ n := by
  rintro rfl
  simp [lockedAgainst, hs.markAt_of_mem hm, lock] at passed

/-- A change under one number keeps the marks with others. -/
theorem mem_changeMark_of_ne {n : Nat} {f : Mark → Mark} {m : Mark} {ms : List Mark} (hm : m ∈ ms)
    (other : m.number ≠ n) : m ∈ changeMark n f ms :=
  List.mem_map.mpr ⟨m, hm, if_neg other⟩

theorem editMark_lockedKept {s : State} (hs : MarksWellFormed s.marks) {n : Nat}
    (passed : lockedAgainst .studio s.marks n = false) (f : Mark → Mark) (st : Status) :
    LockedKept s (s.editMark n f st).state :=
  .of_mem fun _ hm _ lock => mem_changeMark_of_ne hm (number_ne_of_passed hs hm lock passed)

theorem makeMark_lockedKept (s : State) (port : Port) (n : Nat) (a trim : Int) :
    LockedKept s (s.makeMark port n a trim).state :=
  .of_mem fun _ hm _ _ => mem_insertMark.mpr (.inr hm)

theorem retire_marks (s : State) (taken : Mark → Bool) :
    (s.retire taken).marks = s.marks.filter (fun m => !taken m) := by
  unfold State.retire State.retireTarget
  dsimp only
  split <;> simp

theorem retire_lockedKept {s : State} {taken : Mark → Bool}
    (h : ∀ m ∈ s.marks, m.owner = .panel → m.lock = true → taken m = false) : LockedKept s (s.retire taken) := by
  refine .of_mem fun m hm owner lock => ?_
  rw [retire_marks]
  exact List.mem_filter.mpr ⟨hm, by simp [h m hm owner lock]⟩

theorem storeParam_marks (s : State) (n : Nat) (v : Int) : (s.storeParam n v).marks = s.marks := by
  unfold State.storeParam
  dsimp only
  split <;> simp [writeParam_marks]

theorem setParameter_marks (s : State) (n : Nat) (v : Int) : (s.setParameter n v).state.marks = s.marks := by
  unfold State.setParameter
  split
  · rfl
  · exact storeParam_marks ..

/-- A studio request that is no lock request keeps the locked PANEL marks (R132, R145). -/
theorem perform_lockedKept {s : State} (hs : MarksWellFormed s.marks) {req : Request}
    (lock : ∀ n, req ≠ .lockMark n) (unlock : ∀ n, req ≠ .unlockMark n) :
    LockedKept s (s.perform .studio req).state := by
  cases req with
  | motion m => exact .of_records (motion_records s .studio m)
  | placeMark n a t => exact .underTests fun _ => makeMark_lockedKept s _ _ _ _
  | captureMark n =>
    refine .underTests fun _ => ?_
    split
    · exact .refl s
    · exact makeMark_lockedKept s _ _ _ _
  | moveMark n a =>
    refine .underTests fun passed => editMark_lockedKept hs ?_ _ _
    exact firstFailure_none passed (lockedAgainst .studio s.marks n, .locked) (by simp)
  | trimMark n trim =>
    refine .underTests fun passed => editMark_lockedKept hs ?_ _ _
    exact firstFailure_none passed (lockedAgainst .studio s.marks n, .locked) (by simp)
  | lockMark n => exact absurd rfl (lock n)
  | unlockMark n => exact absurd rfl (unlock n)
  | retireMark n =>
    refine .underTests fun passed => retire_lockedKept fun m hm _ locked => ?_
    have other := number_ne_of_passed hs hm locked (n := n)
      (firstFailure_none passed (lockedAgainst .studio s.marks n, .locked) (by simp))
    simpa using other
  | retireMarks scope =>
    refine .underTests fun _ => retire_lockedKept fun m _ owner locked => ?_
    cases scope == 1 <;> simp [Mark.retiredBy, owner, locked]
  | forgetMap => exact .underTests fun _ => .of_records (mapEvent_records ..)
  | setParameter n v => exact .of_records (congrArg _ (setParameter_marks s n v))
  | setProfile n ch cf nmax js => exact .underTests fun _ => .of_records rfl
  | readParameter n =>
    show LockedKept s (s.readParameter n).state
    unfold State.readParameter
    split <;> exact .refl s
  | readStopReport =>
    show LockedKept s s.readStopReport.state
    unfold State.readStopReport
    split
    · exact .refl s
    · exact .of_records rfl
  | clearFlags c a m => exact .underTests fun _ => .of_records rfl
  | readStatus => exact .refl s
  | readGeometry => exact .refl s
  | _ => exact .underTests fun _ => .refl s

/-- The kinds of the lock requests are 16 and 17 (R195). -/
theorem requestOf_lock {kind : Nat} {ops : List Byte} {n : Nat}
    (h : requestOf kind ops = .lockMark n ∨ requestOf kind ops = .unlockMark n) : kind = 16 ∨ kind = 17 := by
  unfold requestOf at h
  split at h <;> simp_all

/-- The studio port has no right to a lock request (R194). -/
theorem carryOut_lockedKept {s : State} (hs : MarksWellFormed s.marks) (kind : Nat) (ops : List Byte) :
    LockedKept s (s.carryOut .studio kind ops).state := by
  unfold State.carryOut
  split
  · exact .refl s
  · next permitted =>
    have unlocking (n : Nat) (h : requestOf kind ops = .lockMark n ∨ requestOf kind ops = .unlockMark n) : False := by
      rcases requestOf_lock h with rfl | rfl <;> exact permitted rfl
    exact perform_lockedKept hs (fun n e => unlocking n (.inl e)) (fun n e => unlocking n (.inr e))

theorem runSlots_lockedKept (slots : List Slot) :
    ∀ (prev : Bool) {s : State}, MarksWellFormed s.marks → LockedKept s (runSlots .studio prev slots s).1 := by
  induction slots with
  | nil => exact fun _ s _ => .refl s
  | cons x rest ih =>
    intro prev s hs
    unfold runSlots
    split
    · exact ih false hs
    · have formed : MarksWellFormed (s.carryOut .studio x.kind x.ops).state.marks :=
        (carryOut_moves s .studio x.kind x.ops).keeps (P := fun u => MarksWellFormed u.marks)
          (fun _ _ m => m.marksWellFormed) hs
      exact (carryOut_lockedKept hs x.kind x.ops).trans (ih _ formed)

/-- A frame at the studio port keeps the locked PANEL marks, whatever its slots ask (R132). -/
theorem studioArrival_lockedKept {s : State} (hs : MarksWellFormed s.marks) (frame : List Byte) :
    LockedKept s (s.studioArrival frame) := by
  have begun : ((s.setStudioRx .hunt).loseHeld .studio).marks = s.marks := by simp
  unfold State.studioArrival State.arrive
  cases studioFrame frame with
  | refused st tag => exact .of_records (congrArg _ begun)
  | taken tag slots =>
    have kept := runSlots_lockedKept slots true (s := (s.setStudioRx .hunt).loseHeld .studio) (by rw [begun]; exact hs)
    rw [LockedKept, begun] at kept
    exact kept

/-- Settles O20: only a studio frame reaches the mark requests, and there each one's tests and the rights keep the
mark. -/
theorem lockedPanelMarkKeptFromStudio : Obligations.LockedPanelMarkKeptFromStudio := by
  intro c s t m panel reset h hs hm owner lock
  have kept : LockedKept s t := by
    by_cases studio : ∀ frame w, c ≠ .studioFrameArrival frame w
    · exact .of_records (exec_records h panel studio reset)
    · push Not at studio
      obtain ⟨frame, w, rfl⟩ := studio
      cases h
      have caught : (s.takeCatches.readSwitch w).marks = s.marks := by simp
      have arrived := studioArrival_lockedKept (s := s.takeCatches.readSwitch w) (by rw [caught]; exact hs) frame
      rw [LockedKept, caught] at arrived
      exact arrived
  obtain ⟨k, hk, same⟩ := kept m hm owner lock
  obtain ⟨number, address, trim, sameOwner, sameLock⟩ := record_eq_iff.mp same
  exact ⟨k, hk, number, address, trim, sameOwner.trans owner, sameLock.trans lock⟩

/-! ## Requests under their tests (R133, R193) -/

theorem underTests_nil (act : State → Carried) (s : State) : underTests [] act s = act s := rfl

theorem underTests_cons (fails : Bool) (st : Status) (rest : List (Bool × Status)) (act : State → Carried) (s : State) :
    underTests ((fails, st) :: rest) act s = if fails then refuse st s else underTests rest act s := by
  cases fails <;> rfl

/-- The tests of a request that names a mark, after those of its operands: the mark is held, and R132 lets the port
change it. -/
theorem underTests_held (port : Port) (n : Nat) (act : State → Carried) (s : State) :
    underTests [heldTest s.marks n, (lockedAgainst port s.marks n, .locked)] act s
      = (markAt s.marks n).elim (refuse .noSuchMark s)
          (fun m => if port = .studio ∧ m.lock = true then refuse .locked s else act s) := by
  cases hm : markAt s.marks n <;> simp [heldTest, lockedAgainst, underTests_cons, underTests_nil, hm]

theorem moveMark_eq (port : Port) (n : Nat) (a : Int) (s : State) :
    s.moveMark port n a
      = if 127 < n ∨ a < 0 ∨ 16777215 < a then refuse .badOperand s
        else (markAt s.marks n).elim (refuse .noSuchMark s)
          (fun m => if port = .studio ∧ m.lock = true then refuse .locked s
            else s.editMark n (Mark.moveTo s.map.spans a) .ok) := by
  rw [State.moveMark, underTests_cons, underTests_cons, underTests_held]
  by_cases hn : 127 < n <;> simp [badNumber, badAddress, hn]

theorem trimMark_eq (port : Port) (n : Nat) (trim : Int) (s : State) :
    s.trimMark port n trim
      = if 127 < n then refuse .badOperand s
        else (markAt s.marks n).elim (refuse .noSuchMark s)
          (fun m => if port = .studio ∧ m.lock = true then refuse .locked s
            else s.editMark n (fun m => { m with trim := clampTrim trim })
              (clampedIf (decide (clampTrim trim ≠ trim)))) := by
  rw [State.trimMark, underTests_cons, underTests_held]
  simp only [badNumber, decide_eq_true_eq]

theorem retireMark_eq (port : Port) (n : Nat) (s : State) :
    s.retireMark port n
      = if 127 < n then refuse .badOperand s
        else (markAt s.marks n).elim (refuse .noSuchMark s)
          (fun m => if port = .studio ∧ m.lock = true then refuse .locked s
            else answer [] (s.retire (fun m => m.number == n))) := by
  rw [State.retireMark, underTests_cons, underTests_held]
  simp only [badNumber, decide_eq_true_eq]

theorem setLock_eq (lock : Bool) (n : Nat) (s : State) :
    s.setLock lock n
      = if 127 < n then refuse .badOperand s
        else (markAt s.marks n).elim (refuse .noSuchMark s)
          (fun m => if m.owner = .studio then refuse .notPermitted s
            else s.editMark n (fun m => { m with lock := lock }) .ok) := by
  rw [State.setLock, underTests_cons]
  cases hm : markAt s.marks n <;>
    simp [badNumber, heldTest, studioOwned, underTests_cons, underTests_nil, hm]

theorem readMark_badOperand {s : State} {n : Nat} (h : 127 < n) : s.readMark n = refuse .badOperand s := by
  rw [State.readMark, underTests_cons, if_pos (by simpa [badNumber] using h)]

/-- The existence test of a number given (R133). -/
theorem underTests_newMarkTests {n : Nat} (hn : n ≤ 127) (act : State → Carried) (s : State) :
    underTests (newMarkTests s.marks n) act s
      = if (markAt s.marks n).isSome then refuse .markExists s else act s := by
  simp [newMarkTests, underTests_cons, underTests_nil, hn, show n ≠ 255 by omega]

/-- The test of the lowest free number asked for (R133). -/
theorem underTests_newMarkTests_lowest (act : State → Carried) (s : State) :
    underTests (newMarkTests s.marks 255) act s
      = if (freeMark s.marks).isNone then refuse .tableFull s else act s := by
  simp [newMarkTests, underTests_cons, underTests_nil]

theorem placeMark_eq (port : Port) (n : Nat) (a trim : Int) (s : State) :
    s.placeMark port n a trim
      = if (127 < n ∧ n ≠ 255) ∨ a < 0 ∨ 16777215 < a then refuse .badOperand s
        else underTests (newMarkTests s.marks n) (State.makeMark port n a trim) s := by
  rw [State.placeMark, List.cons_append, List.cons_append, List.nil_append, underTests_cons, underTests_cons]
  by_cases hn : 127 < n ∧ n ≠ 255 <;> simp [badNewNumber, badAddress, hn]

/-- What CAPTURE_MARK does past the tests of its number (R140). -/
def State.captureHead (port : Port) (n : Nat) (s : State) : Carried :=
  s.headAddr.elim (refuse .noAddress s) (fun a => s.makeMark port n a 0)

theorem captureMark_eq (port : Port) (n : Nat) (s : State) :
    s.captureMark port n
      = if 127 < n ∧ n ≠ 255 then refuse .badOperand s
        else underTests (newMarkTests s.marks n) (State.captureHead port n) s := by
  rw [State.captureMark, underTests_cons]
  simp only [badNewNumber, Bool.and_eq_true, decide_eq_true_eq]
  refine congrArg (fun act => if 127 < n ∧ n ≠ 255 then refuse .badOperand s else underTests _ act s)
    (funext fun u => ?_)
  unfold State.captureHead
  cases u.headAddr <;> rfl

/-! ### The lowest free number (R133) -/

theorem any_number_eq (ms : List Mark) (n : Nat) : ms.any (fun m => m.number == n) = (markAt ms n).isSome := by
  rw [Bool.eq_iff_iff]
  simp [markAt]

theorem freeMark_eq_some {ms : List Mark} {k : Nat} (hk : k ≤ 127) (free : markAt ms k = none)
    (held : ∀ j, j < k → markAt ms j ≠ none) : freeMark ms = some k := by
  rw [freeMark, List.find?_range_eq_some]
  refine ⟨by rw [any_number_eq, free]; rfl, List.mem_range.mpr (Nat.lt_succ_of_le hk), fun j hj => ?_⟩
  rw [any_number_eq, Bool.not_not, Option.isSome_iff_ne_none]
  exact held j hj

theorem freeMark_eq_none {ms : List Mark} (held : ∀ j, j < 128 → markAt ms j ≠ none) : freeMark ms = none := by
  refine List.find?_eq_none.mpr fun j hj => ?_
  rw [any_number_eq, Bool.not_eq_true', Bool.not_eq_false, Option.isSome_iff_ne_none]
  exact held j (List.mem_range.mp hj)

/-! ### What a request does past its tests -/

theorem clampedTrim_status (trim : Int) :
    clampedIf (decide (clampTrim trim ≠ trim)) = if -4096 ≤ trim ∧ trim ≤ 4095 then .ok else .clamped := by
  simp only [← clampTrim_self_iff, clampedIf, decide_eq_true_eq, ite_not]

/-- A new mark enters alone under its number (R139). -/
theorem makeMark_spec {s : State} {n k : Nat} (hk : newNumber s.marks n = k) (free : markAt s.marks k = none)
    (port : Port) (a trim : Int) :
    ∃ t m, s.makeMark port n a trim
        = { state := t, status := if -4096 ≤ trim ∧ trim ≤ 4095 then .ok else .clamped, results := m.encode }
      ∧ m = newMark s.map.spans port k a trim ∧ markAt t.marks k = some m
      ∧ (∀ j, j ≠ k → markAt t.marks j = markAt s.marks j) ∧ t = { s with marks := t.marks } := by
  have placed : markAt (insertMark (newMark s.map.spans port k a trim) s.marks) k
      = some (newMark s.map.spans port k a trim) := markAt_insert_self _ _ free
  refine ⟨s.setMarks (insertMark (newMark s.map.spans port k a trim) s.marks), _, ?_, rfl, placed,
    fun j hj => markAt_insert_ne _ _ hj, rfl⟩
  rw [State.makeMark, hk, clampedTrim_status]
  simp only [State.markRecord, setMarks_marks]
  rw [placed]
  rfl

/-- One mark changed alone, its number kept. -/
theorem editMark_spec {s : State} {n : Nat} {m : Mark} (hm : markAt s.marks n = some m) {f : Mark → Mark}
    (number : ∀ m, (f m).number = m.number) (st : Status) :
    ∃ t k, s.editMark n f st = { state := t, status := st, results := k.encode } ∧ k = f m
      ∧ markAt t.marks n = some k ∧ (∀ j, j ≠ n → markAt t.marks j = markAt s.marks j)
      ∧ t = { s with marks := t.marks } := by
  have changed (j : Nat) := markAt_change n f number s.marks j
  have own : markAt (changeMark n f s.marks) n = some (f m) := by rw [changed, if_pos rfl, hm]; rfl
  refine ⟨s.setMarks (changeMark n f s.marks), _, ?_, rfl, own, fun j hj => by
    rw [setMarks_marks, changed, if_neg hj], rfl⟩
  simp only [State.editMark, State.markRecord, setMarks_marks, own]
  rfl

/-! ## PLACE_MARK and CAPTURE_MARK (R139, R140) -/

theorem newNumber_of_le {n : Nat} (hn : n ≤ 127) (ms : List Mark) : newNumber ms n = n := if_neg (by omega)

theorem newNumber_lowest {ms : List Mark} {k : Nat} (h : freeMark ms = some k) : newNumber ms 255 = k := by
  rw [newNumber, if_pos rfl, h]
  rfl

theorem newMark_eq (spans : List Span) (port : Port) (n : Nat) (a trim : Int) :
    newMark spans port n a trim
      = { number := n, address := a, trim := max (-4096) (min 4095 trim), owner := port, lock := false,
          resolution := resolve spans a } := by
  rw [newMark, clampTrim_eq]

section Free

variable {s : State} {n k : Nat}

theorem placeMark_free (hn : n ≤ 127) (free : markAt s.marks n = none) (port : Port) {a : Int} (low : 0 ≤ a)
    (high : a ≤ 16777215) (trim : Int) : s.placeMark port n a trim = s.makeMark port n a trim := by
  rw [placeMark_eq, if_neg (by omega), underTests_newMarkTests hn, free]
  rfl

theorem captureMark_free (hn : n ≤ 127) (free : markAt s.marks n = none) (port : Port) :
    s.captureMark port n = s.captureHead port n := by
  rw [captureMark_eq, if_neg (by omega), underTests_newMarkTests hn, free]
  rfl

theorem makeMark_lowest (h : freeMark s.marks = some k) (hk : k ≤ 127) (port : Port) (a trim : Int) :
    s.makeMark port 255 a trim = s.makeMark port k a trim := by
  rw [State.makeMark, State.makeMark, newNumber_lowest h, newNumber_of_le hk]

/-- The number 255 stands for the lowest free one (R133). -/
theorem placeMark_lowest (h : freeMark s.marks = some k) (hk : k ≤ 127) (free : markAt s.marks k = none) (port : Port)
    (a trim : Int) : s.placeMark port 255 a trim = s.placeMark port k a trim := by
  rw [placeMark_eq, placeMark_eq, underTests_newMarkTests_lowest, underTests_newMarkTests hk, h, free,
    makeMark_lowest h hk]
  simp [show ¬127 < k by omega]

theorem captureMark_lowest (h : freeMark s.marks = some k) (hk : k ≤ 127) (free : markAt s.marks k = none)
    (port : Port) : s.captureMark port 255 = s.captureMark port k := by
  rw [captureMark_free hk free, captureMark_eq, underTests_newMarkTests_lowest, h]
  simp [State.captureHead, makeMark_lowest h hk]

end Free

/-- The resolution by the spans that hold the address (R134). -/
theorem resolve_spec {spans found : List Span} {a : Int} (h : spans.filter (fun p => p.hasAddress a) = found) :
    (found = [] → resolve spans a = .unresolved)
      ∧ (∀ p, found = [p] → resolve spans a = .resolved p.num (p.lengthOf a))
      ∧ (2 ≤ found.length → resolve spans a = .ambiguous (found.map (fun p => p.num))) := by
  unfold resolve
  rw [h]
  match found with
  | [] => exact ⟨fun _ => rfl, nofun, fun two => absurd two (by simp)⟩
  | [q] => exact ⟨nofun, fun p e => by cases e; rfl, fun two => absurd two (by simp)⟩
  | p :: q :: rest => exact ⟨nofun, nofun, fun _ => rfl⟩

/-- Settles O17: past the tests both requests make their mark by `makeMark_spec`; the lowest free number passes them as
its own number does. -/
theorem placeAndCaptureMakeResolvedRecord : Obligations.PlaceAndCaptureMakeResolvedRecord := by
  refine ⟨fun port n a trim s hn low high free => ?_, fun port n h a p s hn free head span ha => ?_,
    fun port k a trim s hk free held => ?_, fun spans found a h => resolve_spec h.symm⟩
  · obtain ⟨t, m, made, hm, spec⟩ := makeMark_spec (newNumber_of_le hn _) free port a trim
    exact ⟨t, m, (placeMark_free hn free port low high trim).trans made, hm.trans (newMark_eq ..), spec⟩
  · have addr : s.headAddr = some a := by
      have found : spanAt s.map.spans h = some p := span
      rw [State.headAddr, headAddress, head, Option.bind_some, found, ha]
      rfl
    obtain ⟨t, m, made, hm, spec⟩ := makeMark_spec (newNumber_of_le hn _) free port a 0
    refine ⟨t, m, ?_, hm.trans (newMark_eq ..), spec⟩
    rw [captureMark_free hn free, State.captureHead, addr]
    exact made
  · have lowest := freeMark_eq_some hk free held
    exact ⟨placeMark_lowest lowest hk free port a trim, captureMark_lowest lowest hk free port⟩

/-! ## MOVE_MARK, TRIM_MARK, LOCK_MARK and UNLOCK_MARK (R132, R133, R141 to R143) -/

/-- R132 stands in the way of no panel request and of no unlocked mark. -/
theorem not_lockedAgainst {port : Port} {m : Mark} (h : port = .panel ∨ m.lock = false) :
    ¬(port = .studio ∧ m.lock = true) := by
  rintro ⟨rfl, lock⟩
  rcases h with h | h
  · cases h
  · rw [lock] at h
    cases h

/-- Past the tests each request is its change of the mark (R141 to R143). -/
theorem markRequests_change {n : Nat} {m : Mark} {s : State} (hn : n ≤ 127) (hm : markAt s.marks n = some m) :
    (∀ (port : Port) (a trim : Int), 0 ≤ a → a ≤ 16777215 → port = .panel ∨ m.lock = false →
      s.moveMark port n a = s.editMark n (Mark.moveTo s.map.spans a) .ok
      ∧ s.trimMark port n trim = s.editMark n (fun m => { m with trim := clampTrim trim })
          (if -4096 ≤ trim ∧ trim ≤ 4095 then .ok else .clamped))
    ∧ (m.owner = .panel → ∀ lock, s.setLock lock n = s.editMark n (fun m => { m with lock := lock }) .ok) := by
  refine ⟨fun port a trim low high may => ⟨?_, ?_⟩, fun owner lock => ?_⟩
  · rw [moveMark_eq, if_neg (by omega), hm]
    exact if_neg (not_lockedAgainst may)
  · rw [trimMark_eq, if_neg (by omega), hm, clampedTrim_status]
    exact if_neg (not_lockedAgainst may)
  · rw [setLock_eq, if_neg (by omega), hm]
    exact if_neg (by simp [owner])

section Refused

variable (port : Port) (n : Nat) (a trim : Int) (lock : Bool) (s : State)

/-- A number outside 0..127 is refused first (R133). -/
theorem markRequests_badNumber (hn : 127 < n) :
    s.moveMark port n a = refuse .badOperand s ∧ s.trimMark port n trim = refuse .badOperand s
      ∧ s.setLock lock n = refuse .badOperand s ∧ s.retireMark port n = refuse .badOperand s
      ∧ s.readMark n = refuse .badOperand s
      ∧ (n ≠ 255 → s.placeMark port n a trim = refuse .badOperand s ∧ s.captureMark port n = refuse .badOperand s) := by
  refine ⟨?_, ?_, ?_, ?_, readMark_badOperand hn, fun hne => ⟨?_, ?_⟩⟩
  · rw [moveMark_eq, if_pos (.inl hn)]
  · rw [trimMark_eq, if_pos hn]
  · rw [setLock_eq, if_pos hn]
  · rw [retireMark_eq, if_pos hn]
  · rw [placeMark_eq, if_pos (.inl ⟨hn, hne⟩)]
  · rw [captureMark_eq, if_pos ⟨hn, hne⟩]

/-- An address outside 0..16,777,215 is refused with it (R133). -/
theorem markRequests_badAddress (ha : a < 0 ∨ 16777215 < a) :
    s.moveMark port n a = refuse .badOperand s ∧ s.placeMark port n a trim = refuse .badOperand s :=
  ⟨by rw [moveMark_eq, if_pos (.inr ha)], by rw [placeMark_eq, if_pos (.inr ha)]⟩

/-- A number that holds no mark is refused next, and CAPTURE_MARK without a head address last (R133, R140). -/
theorem markRequests_unheld (hn : n ≤ 127) (hm : markAt s.marks n = none) :
    (0 ≤ a → a ≤ 16777215 → s.moveMark port n a = refuse .noSuchMark s)
      ∧ s.trimMark port n trim = refuse .noSuchMark s ∧ s.setLock lock n = refuse .noSuchMark s
      ∧ s.retireMark port n = refuse .noSuchMark s ∧ s.readMark n = refuse .noSuchMark s
      ∧ (headAddress s.map.spans s.geom.head = none → s.captureMark port n = refuse .noAddress s) := by
  refine ⟨fun low high => ?_, ?_, ?_, ?_, ?_, fun off => ?_⟩
  · rw [moveMark_eq, if_neg (by omega), hm]; rfl
  · rw [trimMark_eq, if_neg (by omega), hm]; rfl
  · rw [setLock_eq, if_neg (by omega), hm]; rfl
  · rw [retireMark_eq, if_neg (by omega), hm]; rfl
  · rw [readMark_eq hn, hm]; rfl
  · rw [captureMark_free hn hm, State.captureHead, State.headAddr, off]; rfl

/-- A number that holds a mark is refused to a new one, a lock request to a STUDIO mark, and a studio change to a locked
one (R132, R133, R143). -/
theorem markRequests_held {m : Mark} (hn : n ≤ 127) (hm : markAt s.marks n = some m) :
    (0 ≤ a → a ≤ 16777215 → s.placeMark port n a trim = refuse .markExists s)
      ∧ s.captureMark port n = refuse .markExists s
      ∧ (m.owner = .studio → s.setLock lock n = refuse .notPermitted s)
      ∧ (m.owner = .panel → m.lock = true →
        (0 ≤ a → a ≤ 16777215 → s.moveMark .studio n a = refuse .locked s)
        ∧ s.trimMark .studio n trim = refuse .locked s ∧ s.retireMark .studio n = refuse .locked s) := by
  refine ⟨fun low high => ?_, ?_, fun owner => ?_, fun _ locked => ⟨fun low high => ?_, ?_, ?_⟩⟩
  · rw [placeMark_eq, if_neg (by omega), underTests_newMarkTests hn, hm]; rfl
  · rw [captureMark_eq, if_neg (by omega), underTests_newMarkTests hn, hm]; rfl
  · rw [setLock_eq, if_neg (by omega), hm]; exact if_pos owner
  · rw [moveMark_eq, if_neg (by omega), hm]; exact if_pos ⟨rfl, locked⟩
  · rw [trimMark_eq, if_neg (by omega), hm]; exact if_pos ⟨rfl, locked⟩
  · rw [retireMark_eq, if_neg (by omega), hm]; exact if_pos ⟨rfl, locked⟩

/-- With every number held the lowest free one is refused (R133). -/
theorem markRequests_full (full : ∀ j, j < 128 → markAt s.marks j ≠ none) :
    (0 ≤ a → a ≤ 16777215 → s.placeMark port 255 a trim = refuse .tableFull s)
      ∧ s.captureMark port 255 = refuse .tableFull s := by
  have none_free := freeMark_eq_none full
  refine ⟨fun low high => ?_, ?_⟩
  · rw [placeMark_eq, if_neg (by omega), underTests_newMarkTests_lowest, none_free]; rfl
  · rw [captureMark_eq, if_neg (by omega), underTests_newMarkTests_lowest, none_free]; rfl

end Refused

/-- Settles O18: the changes by `editMark_spec`, the refusals test by test. -/
theorem markChangesAndRefusals : Obligations.MarkChangesAndRefusals := by
  refine ⟨fun port n a trim m s mark hmark hn low high hm => ?_, fun port n a trim lock s =>
    ⟨markRequests_badNumber port n a trim lock s, markRequests_badAddress port n a trim s,
      markRequests_unheld port n a trim lock s, fun m => markRequests_held port n a trim lock s,
      markRequests_full port a trim s⟩⟩
  obtain rfl : mark = Mark.encode := funext hmark
  obtain ⟨changes, locks⟩ := markRequests_change hn hm
  refine ⟨fun may => ?_, fun owner lock => ?_⟩
  · obtain ⟨moves, trims⟩ := changes port a trim low high may
    rw [moves, trims, ← clampTrim_eq]
    exact ⟨editMark_spec hm (Mark.moveTo_number _ _) .ok, editMark_spec hm (by intro; rfl) _⟩
  · rw [locks owner lock]
    exact editMark_spec hm (by intro; rfl) .ok

/-! ## RETIRE_MARK and RETIRE_MARKS (R144, R145, R168, R170) -/

theorem retireTarget_untargeted {s : State} {taken : Nat → Bool}
    (h : ∀ r n, s.locate.active = some r → r.target = .mark n → taken n = false) : s.retireTarget taken = s := by
  refine if_neg ?_
  unfold State.targetsMark
  split
  · next r active =>
    split
    · next n target => simp [h r n active target]
    · simp
  · simp

theorem retireTarget_targeted {s : State} {taken : Nat → Bool} {r : LocateRecord} {n : Nat}
    (active : s.locate.active = some r) (target : r.target = .mark n) (h : taken n = true) :
    s.retireTarget taken = s.failLocate .targetRetired :=
  if_pos (by simp [State.targetsMark, active, target, h])

/-- A retirement that no locate waits for takes its marks alone (R144, R145). -/
theorem retire_untargeted {s : State} {taken : Mark → Bool}
    (h : ∀ r, s.locate.active = some r → ∀ m ∈ s.marks, taken m = true → r.target ≠ .mark m.number) :
    s.retire taken = { s with marks := s.marks.filter (fun m => !taken m) } := by
  refine retireTarget_untargeted fun r n active target => ?_
  rw [List.any_eq_false]
  intro m hm same
  obtain ⟨mem, gone⟩ := List.mem_filter.mp hm
  exact h r active m mem gone (by rw [target, beq_iff_eq.mp same])

/-- What is left of a locate whose mark has been retired (R168, R170). -/
structure TargetRetired (s t : State) (r : LocateRecord) : Prop where
  active : t.locate.active = none
  result : t.locate.result = some
    { target := r.target, outcome := .targetRetired, retries := r.retries, head := s.geom.head.getD 0,
      error := r.lastError }
  failed : ∀ p, (t.ports.port p).has .locateFailed = true
  transport : t.seq.transport = (if s.seq.transport.isChase then .chase .parked else .halting)
  dest : t.seq.restDest = (if s.seq.transport.isChase then none else some .stopped)
  located : t.locate.located = s.locate.located

/-- A retirement that takes the locate's mark fails the locate (R168, R170). -/
theorem retire_targeted {s : State} {taken : Mark → Bool} {r : LocateRecord} {m : Mark}
    (active : s.locate.active = some r) (hm : m ∈ s.marks) (gone : taken m = true)
    (target : r.target = .mark m.number) : TargetRetired s (s.retire taken) r := by
  have named : (s.marks.filter taken).any (fun k => k.number == m.number) = true :=
    List.any_eq_true.mpr ⟨m, List.mem_filter.mpr ⟨hm, gone⟩, beq_self_eq_true _⟩
  have fails : s.retire taken = (s.setMarks (s.marks.filter (fun m => !taken m))).failLocate .targetRetired :=
    retireTarget_targeted (s := s.setMarks _) active target named
  rw [fails]
  obtain ⟨transport, ended, failed, result⟩ :=
    failLocate_spec (s := s.setMarks (s.marks.filter (fun m => !taken m))) .targetRetired active
  obtain ⟨located, dest, -⟩ := failLocate_frame (s.setMarks (s.marks.filter (fun m => !taken m))) .targetRetired
  exact ⟨ended, result, failed, transport, dest, located⟩

/-- RETIRE_MARKS takes the port's own marks, and for ALL every one the port may change (R132, R145). -/
theorem retiredBy_iff {port : Port} {scope : Nat} {m : Mark} :
    m.retiredBy port (scope == 1) = true ↔ m.owner = port ∨ (scope = 1 ∧ (port = .panel ∨ m.lock = false)) := by
  by_cases all : scope = 1
  · cases port <;> simp [Mark.retiredBy, all]
  · rw [beq_false_of_ne all]
    cases port <;> simp [Mark.retiredBy, all]

theorem retireMarks_eq (port : Port) (scope : Nat) (s : State) :
    s.retireMarks port scope
      = if 1 < scope then refuse .badOperand s
        else answer (u8 (s.marks.filter (Mark.retiredBy port (scope == 1))).length)
          (s.retire (Mark.retiredBy port (scope == 1))) := by
  rw [State.retireMarks, underTests_one]
  simp only [decide_eq_true_eq]

/-- Settles O19: both requests are `State.retire`, and a locate either waits for one of its marks or does not. -/
theorem retirementRemovesMarksAndFailsLocate : Obligations.RetirementRemovesMarksAndFailsLocate := by
  refine ⟨fun port n m s hn hm may => ?_, fun port scope s => ⟨fun out => ?_, fun within gone hgone => ?_⟩⟩
  · have retired : s.retireMark port n = answer [] (s.retire (fun m => m.number == n)) := by
      rw [retireMark_eq, if_neg (by omega), hm]
      exact if_neg (not_lockedAgainst may)
    have marks (k : Nat) : markAt (s.retire (fun m => m.number == n)).marks k
        = if k = n then none else markAt s.marks k := by
      rw [retire_marks, markAt_filter]
    rw [retired]
    refine ⟨rfl, (marks n).trans (if_pos rfl), fun k hk => (marks k).trans (if_neg hk), fun free => ?_,
      fun r active target => ⟨_, rfl, ?_⟩⟩
    · have alone := retire_untargeted (s := s) (taken := fun m => m.number == n) fun r active m _ same =>
        beq_iff_eq.mp same ▸ free r active
      rw [← retire_marks] at alone
      exact alone
    · obtain ⟨ended, result, failed, transport, dest, located⟩ := retire_targeted (taken := fun m => m.number == n)
        active (markAt_mem hm) (beq_iff_eq.mpr (markAt_number hm)) (by rw [target, markAt_number hm])
      exact ⟨ended, target ▸ result, failed, transport, dest, located⟩
  · rw [retireMarks_eq, if_pos out]
    rfl
  · obtain rfl : gone = Mark.retiredBy port (scope == 1) :=
      funext fun m => Bool.eq_iff_iff.mpr ((hgone m).trans retiredBy_iff.symm)
    refine ⟨_, by rw [retireMarks_eq, if_neg (by omega)]; rfl, retire_marks .., fun free => ?_,
      fun r m hm active gone target => ?_⟩
    · rw [retire_marks]
      exact retire_untargeted free
    · obtain ⟨ended, result, failed, transport, dest, -⟩ := retire_targeted active hm gone target
      exact ⟨ended, result, failed, transport, dest⟩

end Sys2Proof.Machine

/-! # The locate family

The evaluation at the verify timer's expiry: what each of its ends leaves of the locate, and where a missed pass goes
on. -/

namespace Sys2Proof.Machine

/-! ## The evaluation at rest (R162 to R164) -/

/-- The expiry of a running timer: at rest the evaluation, else nothing (R162). -/
theorem exec_verifyTimerExpiry {s : State} {r : LocateRecord} (hc : Due.extStopCatch ∉ s.due)
    (running : s.locate.verifyTimer = true) (active : s.locate.active = some r) :
    exec .verifyTimerExpiry s = .next (if mag s.speed.vMeas ≤ 62 then s.evaluateVerify r else s) := by
  simp only [exec, execVerifyTimerExpiry, takeCatches_of_not_mem hc, running, if_true, State.verifyExpiry, active]

/-- A pass with a report: its error is kept in the record, and the window decides (R163). -/
theorem evaluateVerify_report {s : State} {r : LocateRecord} {n : Newest} {h e : Int} (head : s.geom.head = some h)
    (newest : r.newest = some n)
    (he : e = r.targetAddr.getD 0 - (n.address + roundDiv ((h - r.offset - n.length) * 1024) n.pitch)) :
    s.evaluateVerify r
      = if mag e ≤ paramOf s.ports.params Param.locateWindow then
          (s.setLocate { r with lastError := some e }).completeLocate true
        else (s.setLocate { r with lastError := some e }).missLocate { r with lastError := some e } := by
  have error : s.verifyError r n = e := by
    rw [he, State.verifyError, State.headNow, head]
    rfl
  simp only [State.evaluateVerify, newest, error]
  rfl

/-- A pass without reports fails where the map does not hold the target, and completes otherwise (R164). -/
theorem evaluateVerify_silent {s : State} {r : LocateRecord} (newest : r.newest = none) :
    s.evaluateVerify r
      = if r.targetState = some .notInMap then s.failLocate .noAddress else s.completeLocate false := by
  simp only [State.evaluateVerify, newest]
  rfl

/-! ## The ends (R154, R167 to R169) -/

theorem resultOf_eq {s : State} {h : Int} (head : s.geom.head = some h) (r : LocateRecord) (o : LocateOutcome) :
    s.resultOf r o
      = { target := r.target, outcome := o, retries := r.retries, head := h, error := r.lastError } := by
  rw [State.resultOf, State.headNow, head]
  rfl

/-- What the completion of the locate `r`, verified or not, leaves (R167, R169). -/
structure LocateCompleted (s : State) (r : LocateRecord) (verified : Bool) (t : State) : Prop where
  transport : t.seq.transport = (if s.seq.transport.isChase then .chase .parked else .stopped)
  ended : t.locate.active = none
  located : t.locate.located = (s.locate.located || verified)
  timer : t.locate.verifyTimer = false
  result : t.locate.result = some (s.resultOf r (if verified then .verified else .unverified))
  done : ∀ p, (t.ports.port p).has .locateDone = true
  motion : t.arb.active = (if s.seq.transport.isChase then s.arb.active else none)
  marks : t.marks = s.marks

/-- A completion outside CHASE with nothing waiting to be judged, or in CHASE. -/
theorem completeLocate_completes {s : State} {r : LocateRecord} (verified : Bool) (active : s.locate.active = some r)
    (quiet : s.seq.transport.isChase = false → s.arb.chase ≠ .waiting ∧ s.arb.slot = none) :
    LocateCompleted s r verified (s.completeLocate verified) := by
  obtain ⟨u, hu⟩ : ∃ u, u = ((s.endLocate (if verified then .verified else .unverified)).pulseLocated verified).raise
      .locateDone := ⟨_, rfl⟩
  have completed : s.completeLocate verified
      = if s.seq.transport.isChase then u.setTransport (.chase .parked) none else u.enterStopped := by rw [hu]; rfl
  have ended : u.locate.active = none := by simp [hu]
  have located : u.locate.located = (s.locate.located || verified) := by simp [hu]
  have stopped : u.locate.verifyTimer = false := by simp [hu, State.pulseLocated, State.endLocate, active]
  have timer (new : Transport) : (u.locate.verifyTimer && (new.locatePhase == some .verify)) = false := by
    rw [stopped, Bool.false_and]
  have result : u.locate.result = some (s.resultOf r (if verified then .verified else .unverified)) := by
    simp [hu, State.pulseLocated, State.endLocate, active]
  have done : ∀ p, (u.ports.port p).has .locateDone = true := fun p => by simp [hu, raise_has]
  have arb : u.arb = s.arb := by simp [hu]
  have marks : u.marks = s.marks := by simp [hu]
  rw [completed]
  cases chase : s.seq.transport.isChase
  · obtain ⟨idle, empty⟩ := quiet chase
    rw [if_neg (by simp), enterStopped_quiet (by rw [arb]; exact idle) (by rw [arb]; exact empty)]
    exact ⟨by rw [chase]; rfl, ended, located, timer .stopped, result, done, by rw [chase]; rfl, marks⟩
  · exact ⟨by rw [chase]; rfl, ended, located, timer (.chase .parked), result, done,
      by rw [chase]; exact congrArg Arbiter.active arb, marks⟩

/-- What the failure of the locate `r` with an outcome leaves (R168). -/
structure LocateFailed (s : State) (r : LocateRecord) (o : LocateOutcome) (t : State) : Prop where
  transport : t.seq.transport = (if s.seq.transport.isChase then .chase .parked else .halting)
  dest : t.seq.restDest = (if s.seq.transport.isChase then none else some .stopped)
  ended : t.locate.active = none
  located : t.locate.located = s.locate.located
  timer : t.locate.verifyTimer = false
  result : t.locate.result = some (s.resultOf r o)
  failed : ∀ p, (t.ports.port p).has .locateFailed = true
  marks : t.marks = s.marks

theorem failLocate_fails {s : State} {r : LocateRecord} (o : LocateOutcome) (active : s.locate.active = some r) :
    LocateFailed s r o (s.failLocate o) := by
  obtain ⟨transport, ended, failed, result⟩ := failLocate_spec o active
  obtain ⟨located, dest, -, marks⟩ := failLocate_frame s o
  have stopped : (s.endLocate o).locate.verifyTimer = false := by simp [State.endLocate, active]
  refine ⟨transport, dest, ended, located, ?_, result, failed, marks⟩
  unfold State.failLocate
  cases s.seq.transport.isChase <;> exact Bool.and_eq_false_iff.mpr (.inl stopped)

/-! ## The retry (R159, R165) -/

/-- A miss below the retry limit is a choice of phase over the recomputed record, the retry counted (R165). -/
theorem missLocate_retry {s : State} {b : LocateRecord} (below : b.retries ≠ b.limit) :
    (s.setLocate b).missLocate b
      = (s.setLocate b).choosePhase s.seq.transport.isChase .reposition
          (s.recompute { b with retries := b.retries + 1 }) := by
  rw [State.missLocate, if_neg below, recompute_congr (s := s) (t := s.setLocate b) rfl rfl rfl rfl]
  rfl

/-- A choice between phases other than VERIFY stops the verify timer, and leaves the located line, the result, the
ports, the arbiter and the reference. -/
theorem choosePhase_frame (s : State) (inChase : Bool) {back : LocatePhase} (h : back ≠ .verify) (r : LocateRecord) :
    (s.choosePhase inChase back r).locate.verifyTimer = false
      ∧ (s.choosePhase inChase back r).locate.located = s.locate.located
      ∧ (s.choosePhase inChase back r).locate.result = s.locate.result
      ∧ (s.choosePhase inChase back r).ports = s.ports ∧ (s.choosePhase inChase back r).arb = s.arb
      ∧ (s.choosePhase inChase back r).speed.vRef = s.speed.vRef := by
  have timer {p : LocatePhase} (hp : p ≠ .verify) :
      (s.setTransport (locateTransport inChase p) none).locate.verifyTimer = false := by
    show (s.locate.verifyTimer && ((locateTransport inChase p).locatePhase == some .verify)) = false
    simp [locateTransport_phase, hp]
  have vRef (p : LocatePhase) : (s.setTransport (locateTransport inChase p) none).speed.vRef = s.speed.vRef :=
    setTransport_vRef none (by cases inChase <;> rfl)
  unfold State.choosePhase
  split
  · exact ⟨timer (by simp), rfl, rfl, rfl, rfl, vRef .approach⟩
  · exact ⟨timer h, rfl, rfl, rfl, rfl, vRef back⟩

/-- The approach entered at once (R159). -/
theorem choosePhase_atOnce {s : State} {r : LocateRecord} (inChase : Bool) (back : LocatePhase)
    (verifies : r.target.verifying = true) (atOnce : s.approachAtOnce r = true) :
    s.choosePhase inChase back r
      = ((s.setTransport (locateTransport inChase .approach) none).setLocate { r with newest := none }).headToward true
          r.stopPoint := by
  rw [State.choosePhase, verifies, atOnce]
  rfl

/-- The reel-driven way to the approach point (R159). -/
theorem choosePhase_away {s : State} {r : LocateRecord} (inChase : Bool) (back : LocatePhase)
    (verifies : r.target.verifying = true) (away : s.approachAtOnce r = false) :
    s.choosePhase inChase back r
      = ((s.setTransport (locateTransport inChase back) none).setLocate r).headToward true
          (r.stopPoint - s.param Param.approachDistance) := by
  rw [State.choosePhase, verifies, away]
  rfl

/-- In VERIFY the capstan drives, so the approach is entered at once from within it with v_ref not negative (R159). -/
theorem approachAtOnce_verify {s : State} {h : Int} (head : s.geom.head = some h)
    (verify : s.seq.transport.locatePhase = some .verify) (q : LocateRecord) :
    s.approachAtOnce q = true
      ↔ q.stopPoint - paramOf s.ports.params Param.approachDistance ≤ h ∧ h ≤ q.stopPoint ∧ 0 ≤ s.speed.vRef := by
  have driven : s.seq.transport.capstanActive s.speed.kind = true := by
    rw [eq_locateTransport verify]
    cases s.seq.transport.isChase <;> rfl
  rw [approachAtOnce_iff, State.headNow, head, Option.getD_some, driven]
  simp only [and_true]
  omega

/-- The choice from within VERIFY of a locate that verifies: the phase, the record and the point it heads for (R159,
R165). -/
theorem choosePhase_from_verify {s : State} {q : LocateRecord} {h : Int} (inChase : Bool)
    (head : s.geom.head = some h) (verify : s.seq.transport.locatePhase = some .verify)
    (verifies : q.target.verifying = true) :
    (q.stopPoint - paramOf s.ports.params Param.approachDistance ≤ h → h ≤ q.stopPoint → 0 ≤ s.speed.vRef →
      (s.choosePhase inChase .reposition q).seq.transport = locateTransport inChase .approach
        ∧ (s.choosePhase inChase .reposition q).locate.active = some { q with newest := none }
        ∧ (s.choosePhase inChase .reposition q).speed.stopPoint = some q.stopPoint)
      ∧ (h < q.stopPoint - paramOf s.ports.params Param.approachDistance ∨ q.stopPoint < h ∨ s.speed.vRef < 0 →
        (s.choosePhase inChase .reposition q).seq.transport = locateTransport inChase .reposition
          ∧ (s.choosePhase inChase .reposition q).locate.active = some q
          ∧ (s.choosePhase inChase .reposition q).speed.stopPoint
            = some (q.stopPoint - paramOf s.ports.params Param.approachDistance)) := by
  have atOnce := approachAtOnce_verify head verify q
  refine ⟨fun near reached forward => ?_, fun out => ?_⟩
  · rw [choosePhase_atOnce inChase _ verifies (atOnce.mpr ⟨near, reached, forward⟩)]
    exact ⟨rfl, rfl, rfl⟩
  · have away : s.approachAtOnce q = false := by
      rw [Bool.eq_false_iff, Ne, atOnce]
      omega
    rw [choosePhase_away inChase _ verifies away]
    exact ⟨rfl, rfl, rfl⟩

/-- Settles O50: the evaluation completes, fails or is missed, and a miss below the limit chooses its phase again. -/
theorem verifyTimerEvaluatesAtRest : Obligations.VerifyTimerEvaluatesAtRest := by
  intro r h s running active state head hc
  have verify : s.seq.transport.locatePhase = some .verify := by
    rcases state with ⟨ht, -⟩ | ht <;> rw [ht] <;> rfl
  have quiet : s.seq.transport.isChase = false → s.arb.chase ≠ .waiting ∧ s.arb.slot = none := by
    rcases state with ⟨-, idle, empty⟩ | ht
    · exact fun _ => ⟨idle, empty⟩
    · exact fun outside => by rw [ht] at outside; cases outside
  have expires := exec_verifyTimerExpiry hc running active
  refine ⟨_, expires, fun moving => if_neg (by omega), fun rest n e hn he within => ?_,
    fun rest n e hn he outside => ?_, fun rest hn held => ?_, fun rest hn unheld => ?_⟩
  · rw [if_pos rest, evaluateVerify_report head hn he, if_pos within]
    have completed := completeLocate_completes (s := s.setLocate { r with lastError := some e }) true rfl quiet
    exact ⟨completed.transport, completed.ended, completed.located.trans (Bool.or_true _), completed.timer,
      completed.result.trans (congrArg some (resultOf_eq (s := s.setLocate _) head ..)), completed.done,
      completed.motion, completed.marks⟩
  · rw [if_pos rest, evaluateVerify_report head hn he, if_neg (by omega)]
    generalize hb : { r with lastError := some e } = b
    have retries : b.retries = r.retries := by rw [← hb]
    have limit : b.limit = r.limit := by rw [← hb]
    rw [← retries, ← limit]
    by_cases hl : b.retries = b.limit
    · have fails : (s.setLocate b).missLocate b = (s.setLocate b).failLocate .missed := if_pos hl
      have failed := failLocate_fails (s := s.setLocate b) .missed rfl
      rw [fails]
      refine ⟨failed.marks, failed.located, failed.timer,
        fun _ => ⟨failed.transport, failed.dest, failed.ended, ?_, failed.failed⟩, fun below => absurd hl below⟩
      rw [failed.result, resultOf_eq (s := s.setLocate b) head, ← hb]
    · rw [missLocate_retry hl]
      obtain ⟨timer, located, result, ports, arb, vRef⟩ := choosePhase_frame (s.setLocate b)
        s.seq.transport.isChase (back := .reposition) (by simp) (s.recompute { b with retries := b.retries + 1 })
      refine ⟨choosePhase_marks .., located, timer, fun full => absurd full hl, fun _ verifies q hq => ?_⟩
      have again : s.recompute { b with retries := b.retries + 1 } = q := by rw [hq, ← hb]
      have target : q.target = r.target := by rw [hq]; exact (recompute_keeps s _).1
      obtain ⟨approaches, repositions⟩ := choosePhase_from_verify (s := s.setLocate b) (q := q)
        s.seq.transport.isChase head verify (by rw [target]; exact verifies)
      rw [again] at result ports arb vRef ⊢
      exact ⟨result, ports, arb, vRef, approaches, repositions⟩
  · rw [if_pos rest, evaluateVerify_silent hn, if_neg held]
    have completed := completeLocate_completes false active quiet
    exact ⟨completed.transport, completed.ended, completed.located.trans (Bool.or_false _),
      completed.result.trans (congrArg some (resultOf_eq head ..)), completed.done, completed.motion⟩
  · rw [if_pos rest, evaluateVerify_silent hn, if_pos unheld]
    have failed := failLocate_fails .noAddress active
    exact ⟨failed.transport, failed.dest, failed.ended, failed.result.trans (congrArg some (resultOf_eq head ..)),
      failed.failed, failed.located⟩

end Sys2Proof.Machine

/-! # The protection family

The capture first, then the demand of each class as an entry to its state, then a raised limit taken by its command. -/

namespace Sys2Proof.Machine

/-! ## The capture (R183, R184) -/

theorem addCause_eq (c : Cause) (cs : List Cause) : addCause c cs = if c ∈ cs then cs else cs ++ [c] := by
  simp [addCause]

theorem capture_fresh {s : State} (c : Cause) (a : CauseAxis) (h : s.prot.report = none ∨ s.prot.unread = false) :
    s.capture c a = { s with prot := { s.prot with report := some (s.snapshot c a), unread := true } } := by
  obtain ⟨q, captured, fresh, -⟩ := capture_spec s c a
  rw [captured, fresh h]

theorem capture_held {s : State} {r : StopReport} (c : Cause) (a : CauseAxis) (report : s.prot.report = some r)
    (unread : s.prot.unread = true) :
    s.capture c a = { s with prot := { s.prot with report := some { r with later := addCause c r.later } } } := by
  obtain ⟨q, captured, -, held⟩ := capture_spec s c a
  rw [captured, held r report unread, ← unread]

/-- Settles O44, by whether a report stands unread. -/
theorem captureKeepsFirstUnreadCause : Obligations.CaptureKeepsFirstUnreadCause :=
  fun c a _ => ⟨fun h => capture_fresh c a h,
    fun r report unread => (capture_held c a report unread).trans (by rw [addCause_eq])⟩

/-! ## The demands as entries (R77, R78, R179 to R181) -/

/-- What no cause touches: the return list and the parameters. -/
structure KeepsStanding (s t : State) : Prop where
  returns : t.arb.returns = s.arb.returns
  params : t.ports.params = s.ports.params

theorem stopDemand_standing (s : State) : KeepsStanding s s.stopDemand := by
  have ended := endByProtection_spec s
  have stop : KeepsStanding s s.enterProtectStop := ⟨ended.returns, ended.params⟩
  unfold State.stopDemand
  split
  · exact ⟨by simp [State.enterUnthreading], by simp [State.enterUnthreading]⟩
  all_goals first | exact stop | exact ⟨rfl, rfl⟩

theorem faultDemand_standing (s : State) : KeepsStanding s s.faultDemand := by
  have ended := endByProtection_spec s
  unfold State.faultDemand
  split
  · exact ⟨rfl, rfl⟩
  · exact ⟨ended.returns, ended.params⟩

theorem takeCause_standing (s : State) (c : Cause) (a : CauseAxis) : KeepsStanding s (s.takeCause c a) := by
  have stop := stopDemand_standing (s.capture c a)
  have fault := faultDemand_standing (s.capture c a)
  unfold State.takeCause
  split
  · exact ⟨rfl, rfl⟩
  · dsimp only
    split
    · exact ⟨fault.returns.trans (by simp), fault.params.trans (by simp)⟩
    · exact ⟨stop.returns.trans (by simp), stop.params.trans (by simp)⟩

/-- What an entry to FAULTED leaves (R78, R181): the drives and outputs off, nothing in progress, FAULT in both sets, and
the profiles with their bindings. -/
structure EntersFaulted (s t : State) : Prop where
  transport : t.seq.transport = .faulted
  outputs : t.seq.outputs
    = { driveEnable := false, brakesReleased := false, pinchDown := false, lifterOut := false, grant := false }
  words : ∀ r, (t.tension.axes.get r).word = 0
  capstan : t.speed.loop.word = 0
  vRef : t.speed.vRef = 0
  flag : ∀ p, (t.ports.port p).has .fault = true
  active : t.arb.active = none
  slot : t.arb.slot = none
  locate : t.locate.active = none
  dest : t.seq.restDest = none
  settle : t.seq.settleTimer = none
  engage : t.seq.engageTimer = false
  profiles : t.geom.profiles = s.geom.profiles
  bound : t.geom.bound = s.geom.bound

theorem enterFaulted_enters {s : State} (h : s.seq.transport ≠ .faulted) : EntersFaulted s s.enterFaulted := by
  have ended := endByProtection_spec s
  have apart : s.endByProtection.seq.transport.sameState .faulted = false := by
    rw [ended.seq]
    cases ht : s.seq.transport with
    | faulted => exact absurd ht h
    | _ => rfl
  obtain ⟨axes, loop, vRef⟩ := setTransport_forced none rfl apart
  obtain ⟨profiles, bound⟩ := setTransport_profiles s.endByProtection .faulted none
  exact
    { transport := rfl, outputs := rfl, words := fun r => (axes r).1, capstan := congrArg CapstanLoop.word loop,
      vRef := vRef, flag := fun p => by simp [State.enterFaulted, raise_has], active := ended.active,
      slot := ended.slot, locate := ended.locate, dest := rfl, settle := rfl, engage := rfl,
      profiles := profiles.trans (congrArg _ ended.geom), bound := (bound (by simp)).trans (congrArg _ ended.geom) }

/-- A fault cause outside UNTHREADED and FAULTED is captured and enters FAULTED (R78, R179). -/
theorem takeCause_faults {s : State} {c : Cause} (a : CauseAxis) (fault : c.isFault = true)
    (threaded : s.seq.transport ≠ .unthreaded) (running : s.seq.transport ≠ .faulted) :
    EntersFaulted s (s.takeCause c a) := by
  have forced : s.seq.transport.isForced = false := by
    cases ht : s.seq.transport with
    | unthreaded => exact absurd ht threaded
    | faulted => exact absurd ht running
    | _ => rfl
  have entered : s.takeCause c a = (s.capture c a).enterFaulted := by
    rw [State.takeCause, if_neg threaded]
    exact (if_pos fault).trans (faultDemand_eq (by rw [capture_seq]; exact forced))
  have enters := enterFaulted_enters (s := s.capture c a) (by rw [capture_seq]; exact running)
  rw [entered]
  exact { enters with
    profiles := enters.profiles.trans (by rw [capture_geom])
    bound := enters.bound.trans (by rw [capture_geom]) }

/-- What an entry to PROTECT_STOP leaves (R51, R77, R84, R93, R102, R180): the kind fixed over the reference that stands,
nothing in progress, and a chase that held the transport broken. -/
structure EntersProtectStop (s t : State) : Prop where
  transport : t.seq.transport = .protectStop
  dest : t.seq.restDest = none
  settle : t.seq.settleTimer = none
  engage : t.seq.engageTimer = false
  kind : t.speed.kind = some s.speed.fixKind
  vRef : t.speed.vRef = s.speed.vRef
  active : t.arb.active = none
  slot : t.arb.slot = none
  locate : t.locate.active = none
  broken : s.chaseHolds = true → ∀ p, (t.ports.port p).has .chaseBroken = true
  chase : s.chaseHolds = true → t.arb.chase = s.arb.afterChase

theorem enterProtectStop_enters {s : State} (h : s.seq.transport ≠ .protectStop) :
    EntersProtectStop s s.enterProtectStop := by
  have ended := endByProtection_spec s
  have kind : s.enterProtectStop.speed.kind = some s.endByProtection.speed.fixKind :=
    setTransport_kind none (by rw [ended.seq]; exact h) rfl
  have vRef : s.enterProtectStop.speed.vRef = s.endByProtection.speed.vRef := setTransport_vRef none rfl
  rw [ended.speed] at kind vRef
  exact
    { transport := rfl, dest := rfl, settle := rfl, engage := rfl, kind := kind, vRef := vRef, active := ended.active,
      slot := ended.slot, locate := ended.locate, broken := ended.broken,
      chase := fun holds => ended.chase.trans (if_pos holds) }

/-- A stop cause in the states under tension but PROTECT_STOP is captured and enters PROTECT_STOP (R77, R179). -/
theorem takeCause_protects {s : State} {c : Cause} (a : CauseAxis) (stop : c.isFault = false)
    (tensioned : s.seq.transport.counting = true) (apart : s.seq.transport ≠ .protectStop) :
    EntersProtectStop s (s.takeCause c a) := by
  have enters := enterProtectStop_enters (s := s.capture c a) (by rw [capture_seq]; exact apart)
  rw [takeCause_stop a stop tensioned apart]
  obtain ⟨q, captured, -⟩ := capture_spec s c a
  rw [captured] at enters ⊢
  exact { enters with }

/-- A stop cause in THREADING is captured and enters UNTHREADING, with PROTECTED raised (R66, R77). -/
theorem takeCause_threading {s : State} {c : Cause} (a : CauseAxis) (stop : c.isFault = false)
    (threading : s.seq.transport = .threading) :
    s.takeCause c a = (s.capture c a).enterUnthreading.raise .protectedStop := by
  simp [State.takeCause, stop, threading, State.stopDemand]

/-- A stop cause in PROTECT_STOP, UNTHREADING and FAULTED is captured alone (R77, R179). -/
theorem takeCause_captures {s : State} {c : Cause} (a : CauseAxis) (stop : c.isFault = false)
    (h : s.seq.transport = .protectStop ∨ s.seq.transport = .unthreading ∨ s.seq.transport = .faulted) :
    s.takeCause c a = s.capture c a := by
  have threaded : s.seq.transport ≠ .unthreaded := by rcases h with h | h | h <;> simp [h]
  have stays : (s.capture c a).stopDemand = s.capture c a :=
    stopDemand_none (by rw [capture_seq]; exact h.imp_right (Or.imp_right Or.inl))
  simp [State.takeCause, threaded, stop, stays]

/-! ## Raised limits taken (R175, R179, log entries 3 and 14) -/

/-- The command of a raised event takes its cause, where no caught start comes before it. -/
theorem exec_command_of_mem {d : Due} {s : State} (raised : d ∈ s.due)
    (first : d = .extStopCatch ∨ Due.extStopCatch ∉ s.due) :
    exec d.command s = .next ((s.setDue (s.due.erase d)).takeCause d.cause.1 d.cause.2) := by
  rw [← takeDue_of_mem raised]
  by_cases h : d = .extStopCatch
  · subst h
    rfl
  · rw [exec_command h, takeCatches_of_not_mem (first.resolve_left h)]

theorem Due.cause_of_fault {d : Due} {c : Cause} {y : CauseAxis} {r : Reel}
    (h : (d, c, y) ∈ [(Due.low r, Cause.tensionLoss, r.axis), (.saturation r, .driveSaturated, r.axis),
      (.capstanSaturation, .driveSaturated, .capstan), (.tapeOut, .tapeOut, .none)]) :
    d.cause = (c, y) ∧ c.isFault = true := by
  simp only [List.mem_cons, Prod.mk.injEq, List.not_mem_nil, or_false] at h
  rcases h with ⟨rfl, rfl, rfl⟩ | ⟨rfl, rfl, rfl⟩ | ⟨rfl, rfl, rfl⟩ | ⟨rfl, rfl, rfl⟩ <;> exact ⟨rfl, rfl⟩

theorem Due.cause_of_stop {d : Due} {c : Cause} {y : CauseAxis} {r : Reel}
    (h : (d, c, y) ∈ [(Due.reject r, Cause.geometry, r.axis), (.high r, .overTension, r.axis),
      (.overspeed r, .reelOverspeed, r.axis), (.extStopCatch, .extStop, .none)]) :
    d.cause = (c, y) ∧ c.isFault = false := by
  simp only [List.mem_cons, Prod.mk.injEq, List.not_mem_nil, or_false] at h
  rcases h with ⟨rfl, rfl, rfl⟩ | ⟨rfl, rfl, rfl⟩ | ⟨rfl, rfl, rfl⟩ | ⟨rfl, rfl, rfl⟩ <;> exact ⟨rfl, rfl⟩

/-- Settles O42: the raised cause is taken, and its demand is the entry to FAULTED. -/
theorem faultCauseEntersFaulted : Obligations.FaultCauseEntersFaulted := by
  intro d c x y r s hx hlimit raised threaded running hc
  obtain rfl : x = r.axis := hx.trans (by cases r <;> rfl)
  obtain ⟨cause, fault⟩ := Due.cause_of_fault hlimit
  have taken := exec_command_of_mem raised (.inr hc)
  rw [cause] at taken
  have entered := takeCause_faults (s := s.setDue (s.due.erase d)) y fault threaded running
  have standing := takeCause_standing (s.setDue (s.due.erase d)) c y
  obtain ⟨unread, fresh, -⟩ := takeCause_report (s := s.setDue (s.due.erase d)) c y threaded
  exact ⟨_, taken, takeCause_due .., entered.transport, entered.outputs, entered.words, entered.capstan, entered.vRef,
    entered.flag, entered.active, entered.slot, entered.locate, entered.dest, entered.settle, entered.engage, unread,
    fun h => ⟨_, fresh (.inr h), rfl, rfl, rfl, rfl, rfl, rfl, rfl⟩, takeCause_marks .., standing.returns,
    standing.params, entered.profiles, entered.bound⟩

/-- Settles O43: the raised cause is taken, and its demand goes by the state found. -/
theorem stopCauseEntersProtectStop : Obligations.StopCauseEntersProtectStop := by
  intro d c x y r s hx hlimit raised first
  obtain rfl : x = r.axis := hx.trans (by cases r <;> rfl)
  obtain ⟨cause, stop⟩ := Due.cause_of_stop hlimit
  have taken := exec_command_of_mem raised first
  rw [cause] at taken
  have standing := takeCause_standing (s.setDue (s.due.erase d)) c y
  refine ⟨_, taken, takeCause_due .., fun tensioned apart => ?_, fun threading => ?_, fun reports => ?_,
    fun unthreaded => if_pos unthreaded, fun threaded => ?_, takeCause_marks .., standing.returns, standing.params⟩
  · have threaded : s.seq.transport ≠ .unthreaded := fun h => by rw [h] at tensioned; cases tensioned
    have entered := takeCause_protects (s := s.setDue (s.due.erase d)) y stop tensioned apart
    have unread := (takeCause_report (s := s.setDue (s.due.erase d)) c y threaded).1
    have holds (h : s.arb.chase = .starting ∨ s.seq.transport.isChase = true) : s.chaseHolds = true := by
      simpa [State.chaseHolds] using h
    exact ⟨entered.transport, entered.dest, entered.settle, entered.engage, entered.kind, entered.vRef, entered.active,
      entered.slot, entered.locate, unread, fun h => ⟨entered.broken (holds h), entered.chase (holds h)⟩⟩
  · have head := (takeCause_frame (s := s.setDue (s.due.erase d)) c y).2 (by rw [setDue_seq, threading]; rfl)
    rw [takeCause_threading (s := s.setDue (s.due.erase d)) y stop threading] at head ⊢
    exact ⟨by simp [State.enterUnthreading], fun p => by simp [raise_has], head⟩
  · rw [takeCause_captures (s := s.setDue (s.due.erase d)) y stop reports]
    obtain ⟨q, captured, -⟩ := capture_spec (s.setDue (s.due.erase d)) c y
    rw [captured]
    rfl
  · obtain ⟨unread, fresh, held⟩ := takeCause_report (s := s.setDue (s.due.erase d)) c y threaded
    exact ⟨unread, fun h => ⟨_, fresh (.inr h), rfl, rfl, rfl, rfl, rfl, rfl, rfl⟩,
      fun q h report => (held q report h).trans (by rw [addCause_eq])⟩

end Sys2Proof.Machine

/-! # The command ports and signals family

The flag sets first (R199 to R201), then a parameter set (R202), the slots of a frame in order and the form of a response
and of a request frame (R188 to R193, R196), the operands of a request (R194, R195), and last the commands that bring frames
and reports (R188 to R190, R203). -/

namespace Sys2Proof.Machine

/-! ## The attention line and CLEAR_FLAGS (R199 to R201) -/

/-- The 13 flags take the 13 bits in order (R199). -/
theorem flag_bits :
    [Flag.locateDone, .locateFailed, .preempted, .protectedStop, .fault, .mapFull, .markChanged, .returnWrapped,
      .chaseBroken, .chaseClamped, .linkError, .pendingDropped, .responseLost].map Flag.bit = List.range 13 := rfl

theorem Flag.exists_bit {i : Nat} (h : i < 13) : ∃ f : Flag, f.bit = i := by
  have mem := List.mem_range.mpr h
  rw [← flag_bits] at mem
  obtain ⟨f, -, bit⟩ := List.mem_map.mp mem
  exact ⟨f, bit⟩

theorem reset_port (l : ResetLevels) (port : Port) : (State.resetWith l).ports.port port = .reset := by
  cases port <;> rfl

/-- Settles O13: the bits of a set are the flags' bits. -/
theorem attentionFollowsEnabledFlags : Obligations.AttentionFollowsEnabledFlags := by
  refine ⟨fun p => ?_, fun l port => by rw [reset_port]; rfl⟩
  rw [attention_bits]
  constructor
  · rintro ⟨i, lt, set, enabled⟩
    obtain ⟨f, rfl⟩ := Flag.exists_bit lt
    exact ⟨f, set, enabled⟩
  · rintro ⟨f, set, enabled⟩
    exact ⟨f.bit, f.bit_lt, set, enabled⟩

theorem clearFlags_eq (port : Port) (clear action mask : Nat) (s : State) :
    s.clearFlags port clear action mask
      = if 1 < action then refuse .badOperand s
        else
          let q := (s.ports.port port).clearFlags (BitVec.ofNat 13 clear)
            (if action = 1 then some (BitVec.ofNat 13 mask) else none)
          answer (u16 q.flags.toNat ++ u16 q.mask.toNat) (s.onPort port (fun _ => q)) := by
  rw [State.clearFlags, underTests_one]
  simp only [decide_eq_true_eq]
  cases port <;> rfl

/-- A bit of an operand's set that has a flag is that bit of the operand (R200). -/
theorem Flag.getLsbD_ofNat (f : Flag) (n : Nat) : (BitVec.ofNat 13 n).getLsbD f.bit = n.testBit f.bit := by
  rw [BitVec.getLsbD_ofNat, decide_eq_true f.bit_lt, Bool.true_and]

/-- Settles O14, by whether the action is KEEP or SET. -/
theorem clearFlagsTouchesItsPortAlone : Obligations.ClearFlagsTouchesItsPortAlone := by
  intro port clear action mask s
  rw [clearFlags_eq]
  refine ⟨fun h => if_pos h, fun h => ⟨_, _, if_neg (by omega), fun f => ?_, rfl, ?_, ?_, ?_⟩⟩
  · rw [PortState.clearFlags_has, f.getLsbD_ofNat]
  · rintro rfl
    rfl
  · rintro rfl f
    exact f.getLsbD_ofNat mask
  · cases port <;> rfl

/-! ## SET_PARAMETER (R202) -/

/-- An examination keeps the stop report, the return list and the parameters, whatever it grants (R95, R96). -/
theorem examineChase_standing (s : State) : s.examineChase.prot = s.prot ∧ KeepsStanding s s.examineChase := by
  have taken {c : List Due} {m : Motion} {p : ChaseState} {t : State}
      (handed : HandedOn c ((s.yielded.setRecord m).setChase p) t) : t.prot = s.prot ∧ KeepsStanding s t :=
    ⟨handed.prot.trans (yielded_prot s), by rw [handed.arb]; simp, by rw [handed.ports]; simp⟩
  unfold State.examineChase
  split
  · unfold State.grantChase
    dsimp only
    split
    · exact taken (enterChase_handedOn ..)
    · exact taken (enterChase_handedOn ..)
    · exact taken (setTransport_handedOn _ rfl)
  · exact ⟨rfl, rfl, rfl⟩

/-- What a parameter written changes: its place in the table, and the held word that its limit bounds (R31, R53). -/
theorem writeParam_eq (s : State) (n : Nat) (v : Int) :
    s.writeParam n v = { s with
      ports := { s.ports with params := s.ports.params.set n v }
      tension := (s.writeParam n v).tension
      speed := (s.writeParam n v).speed } := by
  unfold State.writeParam
  dsimp only
  split_ifs <;> rfl

/-- A parameter that is no drive limit leaves the tension servo and the speed unit (R31, R53). -/
theorem writeParam_drives (s : State) {n : Nat} (v : Int) (supply : n ≠ Param.supplyLimit)
    (takeup : n ≠ Param.takeupLimit) (capstan : n ≠ Param.capstanLimit) :
    (s.writeParam n v).tension = s.tension ∧ (s.writeParam n v).speed = s.speed := by
  unfold State.writeParam
  dsimp only
  rw [if_neg supply, if_neg takeup, if_neg capstan]
  exact ⟨rfl, rfl⟩

/-- A parameter stored that is no level is written alone, and so is one stored with no chase waiting (R82, R95). -/
theorem storeParam_eq_writeParam {n : Nat} (v : Int) {s : State}
    (h : n < Param.panelLevel ∨ Param.lockoutLevel < n ∨ s.arb.chase ≠ .waiting) :
    s.storeParam n v = s.writeParam n v := by
  obtain ⟨-, -, -, -, -, arb, -⟩ := writeParam_frame s n v
  unfold State.storeParam
  dsimp only
  split
  case isTrue level =>
    exact examineChase_of_not_waiting (by rw [arb]; exact h.elim (by omega) (·.elim (by omega) id))
  case isFalse => rfl

/-- What a parameter stored keeps whatever its number: the examination that may follow keeps it too. -/
theorem storeParam_standing (s : State) (n : Nat) (v : Int) :
    (s.storeParam n v).prot = s.prot ∧ (s.storeParam n v).arb.returns = s.arb.returns
      ∧ (s.storeParam n v).ports.params = s.ports.params.set n v := by
  obtain ⟨-, -, -, -, -, arb, prot, -⟩ := writeParam_frame s n v
  have params := writeParam_params s n v
  unfold State.storeParam
  dsimp only
  split
  · obtain ⟨kept, standing⟩ := examineChase_standing (s.writeParam n v)
    exact ⟨kept.trans prot, standing.returns.trans (congrArg Arbiter.returns arb), standing.params.trans params⟩
  · exact ⟨prot, congrArg Arbiter.returns arb, params⟩

theorem setParameter_badOperand {n : Nat} (h : 37 < n) (v : Int) (s : State) :
    s.setParameter n v = refuse .badOperand s := by
  rw [State.setParameter, List.getElem?_eq_none (by rw [paramRows_length]; omega)]

theorem setParameter_eq {n : Nat} {row : ParamRow} (h : paramRows[n]? = some row) (v : Int) (s : State) :
    s.setParameter n v
      = { state := s.storeParam n (paramStored n row v)
          status := if paramStored n row v = v then .ok else .clamped
          results := s32 (paramStored n row v) } := by
  rw [State.setParameter, h]
  by_cases e : paramStored n row v = v <;> simp [clampedIf, e]

/-- The least value of a row is at most its greatest (R202). -/
theorem row_lo_le_hi {n : Nat} {row : ParamRow} (h : paramRows[n]? = some row) : row.lo ≤ row.hi :=
  (paramStored_range n row 0 h).1.trans (paramStored_range n row 0 h).2

/-- A held word clamped to a limit that a row gives (R31, R53). -/
theorem clampTo_stored {n : Nat} {row : ParamRow} (h : paramRows[n]? = some row) (v x : Int) :
    clampTo (-paramStored n row v) (paramStored n row v) x
      = max (-paramStored n row v) (min (paramStored n row v) x) :=
  clampTo_eq_max_min (by have := paramStored_nonneg h v; omega) x

/-- Settles O15: the value stored by the row, then what storing it writes and keeps. -/
theorem setParameterStoresInRange : Obligations.SetParameterStoresInRange := by
  intro n v s
  refine ⟨fun h => setParameter_badOperand h v s, fun row h len => ?_⟩
  have clamped := clampTo_stored h v
  obtain ⟨prot, returns, params⟩ := storeParam_standing s n (paramStored n row v)
  have read (k : Nat) := paramOf_set s.ports.params n k (paramStored n row v)
    (by rw [len, ← paramRows_length]; exact (List.getElem?_eq_some_iff.mp h).1)
  rw [← params] at read
  have written := storeParam_eq_writeParam (paramStored n row v) (s := s) (n := n)
  refine ⟨s.storeParam n (paramStored n row v), paramStored n row v, setParameter_eq h v s, (read n).trans (if_pos rfl),
    ?play, ?settle, fun play settle => ?range, fun k hk => (read k).trans (if_neg hk), storeParam_marks .., prot, returns,
    fun quiet => ?frame, ?supply, ?takeup, ?capstan, fun supply takeup capstan quiet => ?drives⟩
  case play | settle =>
    rintro rfl
    rfl
  case range => rw [paramStored, if_neg play, if_neg settle, clampTo_eq_max_min (row_lo_le_hi h)]
  case frame =>
    rw [written quiet]
    exact writeParam_eq ..
  case supply | takeup | capstan =>
    rintro rfl
    rw [written (.inl (by decide)), ← clamped]
    exact ⟨rfl, rfl⟩
  case drives =>
    rw [written quiet]
    exact writeParam_drives s (paramStored n row v) supply takeup capstan

/-! ## Slots in order (R192, R193) -/

theorem Status.accepted_iff (st : Status) : st.accepted = true ↔ st = .ok ∨ st = .clamped ∨ st = .pending := by
  cases st <;> simp [Status.accepted]

/-- The answer that a slot carried out gives to the response. -/
def Carried.slotAnswer (c : Carried) : SlotAnswer := { status := c.status, results := c.results }

/-- A slot that is ALWAYS or follows an accepted one is carried out, and its status decides for the next (R192). -/
theorem runSlots_run (port : Port) {prev : Bool} {x : Slot} (h : x.condition = 0 ∨ prev = true) (rest : List Slot)
    (s : State) :
    runSlots port prev (x :: rest) s
      = let c := s.carryOut port x.kind x.ops
        let r := runSlots port c.status.accepted rest c.state
        (r.1, c.slotAnswer :: r.2) := by
  have run : ¬(x.condition = 1 ∧ prev = false) := by rintro ⟨h1, h2⟩; simp [h1, h2] at h
  rw [runSlots, if_neg run]
  rfl

/-- A conditional slot after one that was not accepted is skipped, and counts as not accepted (R192). -/
theorem runSlots_skip (port : Port) {x : Slot} (h : x.condition = 1) (rest : List Slot) (s : State) :
    runSlots port false (x :: rest) s
      = ((runSlots port false rest s).1, ⟨.skipped, []⟩ :: (runSlots port false rest s).2) := by
  rw [runSlots, if_pos ⟨h, rfl⟩]

theorem runSlots_one (port : Port) {x : Slot} (h : x.condition = 0) (s : State) :
    runSlots port true [x] s = ((s.carryOut port x.kind x.ops).state, [(s.carryOut port x.kind x.ops).slotAnswer]) :=
  runSlots_run port (.inl h) [] s

/-- Conditional slots alone after one that was not accepted are skipped whole (R192). -/
theorem runSlots_skip_all (port : Port) {slots : List Slot} (h : ∀ x ∈ slots, x.condition = 1) (s : State) :
    runSlots port false slots s = (s, slots.map (fun _ => ⟨.skipped, []⟩)) := by
  induction slots with
  | nil => rfl
  | cons x rest ih =>
    rw [runSlots_skip port (h x (by simp)), ih fun y hy => h y (by simp [hy])]
    rfl

/-- Settles O9: a slot is run or skipped by its condition and the status before it. -/
theorem conditionalSlotsRunAfterAccepted : Obligations.ConditionalSlotsRunAfterAccepted := by
  refine ⟨Status.accepted_iff, fun port _ _ rest s h => runSlots_run port h rest s,
    fun port _ rest s h => runSlots_skip port h rest s, fun port _ _ rest s skip run => ?_,
    fun port _ s h => runSlots_skip_all port h s⟩
  rw [runSlots_skip port skip, runSlots_run port (.inl run)]
  rfl

/-! ## Statuses that carry results (R193) -/

/-- Results come with the statuses OK and CLAMPED alone (R193). -/
def Carried.ResultsFollow (c : Carried) : Prop := c.status ≠ .ok → c.status ≠ .clamped → c.results = []

theorem resultsFollow_refuse (st : Status) (s : State) : (refuse st s).ResultsFollow := fun _ _ => rfl

theorem resultsFollow_ok {c : Carried} (h : c.status = .ok) : c.ResultsFollow := fun ne _ => absurd h ne

theorem resultsFollow_clampedIf {c : Carried} {b : Bool} (h : c.status = clampedIf b) : c.ResultsFollow := by
  intro ok clamped
  cases b
  · exact absurd h ok
  · exact absurd h clamped

theorem resultsFollow_underTests {act : State → Carried} {s : State} (h : (act s).ResultsFollow)
    (tests : List (Bool × Status)) : (underTests tests act s).ResultsFollow := by
  unfold underTests
  split
  · exact resultsFollow_refuse _ s
  · exact h

theorem resultsFollow_makeMark (port : Port) (n : Nat) (a trim : Int) (s : State) :
    (s.makeMark port n a trim).ResultsFollow := resultsFollow_clampedIf rfl

theorem resultsFollow_captureMark (port : Port) (n : Nat) (s : State) : (s.captureMark port n).ResultsFollow := by
  refine resultsFollow_underTests ?_ _
  split
  · exact resultsFollow_refuse _ s
  · exact resultsFollow_makeMark port n _ 0 s

theorem resultsFollow_setParameter (n : Nat) (v : Int) (s : State) : (s.setParameter n v).ResultsFollow := by
  unfold State.setParameter
  split
  · exact resultsFollow_refuse _ s
  · exact resultsFollow_clampedIf rfl

theorem resultsFollow_readParameter (n : Nat) (s : State) : (s.readParameter n).ResultsFollow := by
  unfold State.readParameter
  split
  · exact resultsFollow_refuse _ s
  · exact resultsFollow_ok rfl

theorem resultsFollow_readStopReport (s : State) : s.readStopReport.ResultsFollow := by
  unfold State.readStopReport
  split
  · exact resultsFollow_refuse _ s
  · exact resultsFollow_ok rfl

/-- Every request carries results with OK and CLAMPED alone: past its tests it answers one of the two, but a motion,
which answers the arbiter's status without results, and CAPTURE_MARK, which may find no address (R140). -/
theorem resultsFollow_perform (port : Port) (req : Request) (s : State) : (s.perform port req).ResultsFollow := by
  cases req with
  | motion => exact fun _ _ => rfl
  | captureMark n => exact resultsFollow_captureMark port n s
  | setParameter n v => exact resultsFollow_setParameter n v s
  | readParameter n => exact resultsFollow_readParameter n s
  | readStopReport => exact resultsFollow_readStopReport s
  | readStatus | readGeometry => exact resultsFollow_ok rfl
  | placeMark | trimMark | setProfile => exact resultsFollow_underTests (resultsFollow_clampedIf rfl) _
  | _ => exact resultsFollow_underTests (resultsFollow_ok rfl) _

theorem resultsFollow_carryOut (port : Port) (kind : Nat) (ops : List Byte) (s : State) :
    (s.carryOut port kind ops).ResultsFollow := by
  unfold State.carryOut
  split
  · exact resultsFollow_refuse _ s
  · exact resultsFollow_perform port _ s

/-! ## Responses (R193, R196) -/

/-- The bytes of a response before its check. -/
def responseBody (tag : Byte) (st : FrameStatus) (answers : List SlotAnswer) : List Byte :=
  u16 (6 + (answers.flatMap SlotAnswer.encode).length)
    ++ tag :: BitVec.ofNat 8 st.code :: BitVec.ofNat 8 answers.length :: answers.flatMap SlotAnswer.encode

theorem response_eq (tag : Byte) (st : FrameStatus) (answers : List SlotAnswer) :
    response tag st answers = responseBody tag st answers ++ [-byteSum (responseBody tag st answers)] := by
  simp [response, responseBody, u8]

theorem response_length (tag : Byte) (st : FrameStatus) (answers : List SlotAnswer) :
    (response tag st answers).length = 6 + (answers.flatMap SlotAnswer.encode).length := by
  rw [response_eq]
  simp [responseBody, u16]
  omega

/-- Bytes closed by the negative of their sum sum to 0 (R191, R196). -/
theorem byteSum_checked (bs : List Byte) : byteSum (bs ++ [-byteSum bs]) = 0 := by
  rw [byteSum_append, byteSum_singleton, add_neg_cancel]

theorem unsignedOf_u16 {n : Nat} (h : n < 65536) : unsignedOf (u16 n) = n := by
  simp [unsignedOf, u16]
  omega

/-- A slot's answer in bytes: its status, the number of result bytes in two bytes, and the results (R196). -/
theorem SlotAnswer.encode_eq (a : SlotAnswer) :
    a.encode = BitVec.ofNat 8 a.status.code :: BitVec.ofNat 8 (a.results.length / 256)
      :: BitVec.ofNat 8 (a.results.length % 256) :: a.results := by
  have low : BitVec.ofNat 8 (a.results.length % 256) = BitVec.ofNat 8 a.results.length := by
    apply BitVec.eq_of_toNat_eq
    simp
  rw [low]
  rfl

/-- Each answer's results stand in the bytes of all. -/
theorem results_length_le {a : SlotAnswer} {answers : List SlotAnswer} (h : a ∈ answers) :
    a.results.length ≤ (answers.flatMap SlotAnswer.encode).length := by
  have part : a.results.length ≤ a.encode.length := by
    rw [SlotAnswer.encode_eq, List.length_cons, List.length_cons, List.length_cons]
    omega
  exact part.trans (List.sublist_flatten_of_mem (List.mem_map_of_mem h) |>.length_le)

/-- Settles O10: the layout read off the body and its check, then the codes, then the requests one by one. -/
theorem responseCarriesLengthAndCheck : Obligations.ResponseCarriesLengthAndCheck := by
  refine ⟨fun tag st answers short => ?_, rfl, rfl, resultsFollow_carryOut⟩
  rw [response_length] at short
  refine ⟨?_, ?_, ?_, ?_, ?_, ?_, fun a ha => ?_⟩
  · rw [response_eq, byteSum_checked]
  · rw [response_length]
    exact unsignedOf_u16 short
  · rw [response_eq]
    rfl
  · rw [response_eq]
    rfl
  · rw [response_eq]
    rfl
  · rw [response_eq, ← funext SlotAnswer.encode_eq]
    exact List.dropLast_concat
  · have := results_length_le ha
    omega

/-! ## Request frames (R188, R189, R191, R196) -/

/-- Slots taken from bytes spell those bytes, each field in its byte, with what follows them. -/
theorem takeSlots_spells {n : Nat} {bs more : List Byte} {slots : List Slot} (h : takeSlots n bs = some (slots, more)) :
    slots.length = n ∧ bs = slots.flatMap Slot.bytes ++ more
      ∧ ∀ x ∈ slots, x.kind < 256 ∧ x.condition < 256 ∧ x.ops.length < 256 := by
  induction n, bs using takeSlots.induct generalizing slots with
  | case1 bs =>
    obtain ⟨rfl, rfl⟩ := Prod.mk.inj (Option.some.inj h)
    exact ⟨rfl, rfl, by simp⟩
  | case2 n k c l rest short => simp [takeSlots, short] at h
  | case3 n k c l rest long ih =>
    rw [takeSlots, if_neg long] at h
    obtain ⟨⟨later, left⟩, taken, e⟩ := Option.map_eq_some_iff.mp h
    obtain ⟨rfl, rfl⟩ := Prod.mk.inj e
    obtain ⟨count, spelt, fits⟩ := ih taken
    have ops : (rest.take l.toNat).length = l.toNat := List.length_take_of_le (not_lt.mp long)
    refine ⟨congrArg (· + 1) count, ?_, fun x hx => ?_⟩
    · simp only [List.flatMap_cons, Slot.bytes, ops, BitVec.ofNat_toNat, BitVec.setWidth_eq, List.append_assoc,
        List.cons_append, List.nil_append]
      rw [← spelt, List.take_append_drop]
    · rcases List.mem_cons.mp hx with rfl | hx
      · exact ⟨k.isLt, c.isLt, ops.trans_lt l.isLt⟩
      · exact fits x hx
  | case4 n bs none => simp [takeSlots] at h

/-- The structure tests of R191 as the model makes them are those of `FrameLegal`. -/
theorem slotsLegal_iff {slots : List Slot} (h : slots ≠ []) : slotsLegal slots = true ↔ FrameLegal slots := by
  obtain ⟨x, rest, rfl⟩ := List.exists_cons_of_ne_nil h
  simp [slotsLegal, FrameLegal, motionLast, Slot.legal, isMotionKind, and_assoc]

theorem FitsFrame.ne_nil {slots : List Slot} (h : FitsFrame slots) : slots ≠ [] :=
  List.length_pos_iff.mp h.1

theorem FitsFrame.count_le {slots : List Slot} (h : FitsFrame slots) : slots.length ≤ 4 := h.2.1

theorem FitsFrame.fields {slots : List Slot} (h : FitsFrame slots) :
    ∀ x ∈ slots, x.kind < 256 ∧ x.condition < 256 ∧ x.ops.length < 256 := h.2.2

theorem testFrame_legal (tag : Byte) {bytes : List Byte} (sum : byteSum bytes = 0) {slots : List Slot}
    (fits : FitsFrame slots) (legal : FrameLegal slots) : testFrame tag bytes (some slots) = .taken tag slots := by
  rw [testFrame, if_neg (not_not.mpr sum)]
  exact if_pos ((slotsLegal_iff fits.ne_nil).mpr legal)

theorem testFrame_illegal (tag : Byte) {bytes : List Byte} (sum : byteSum bytes = 0) {slots : List Slot}
    (fits : FitsFrame slots) (illegal : ¬FrameLegal slots) :
    testFrame tag bytes (some slots) = .refused .frameIllegal tag := by
  rw [testFrame, if_neg (not_not.mpr sum)]
  exact if_neg (mt (slotsLegal_iff fits.ne_nil).mp illegal)

theorem testFrame_unchecked (tag : Byte) {bytes : List Byte} (sum : byteSum bytes ≠ 0) (slots : Option (List Slot)) :
    testFrame tag bytes slots = .refused .frameCheck tag := if_pos sum

theorem testFrame_unfilled (tag : Byte) {bytes : List Byte} (sum : byteSum bytes = 0) :
    testFrame tag bytes none = .refused .frameIllegal tag := if_neg (not_not.mpr sum)

theorem byteSum_frameBytes (tag : Byte) (slots : List Slot) : byteSum (frameBytes tag slots) = 0 := byteSum_checked _

theorem frameBytes_length (tag : Byte) (slots : List Slot) : (frameBytes tag slots).length = frameExtent slots := by
  rw [frameBytes, List.length_append, frameBody_length, frameExtent_eq, List.length_singleton]
  omega

/-- A frame with a slot has its tag, count and check, and at least the three bytes of that slot (R196). -/
theorem FitsFrame.extent_ge {slots : List Slot} (h : FitsFrame slots) : 6 ≤ frameExtent slots := by
  obtain ⟨x, rest, rfl⟩ := List.exists_cons_of_ne_nil h.ne_nil
  simp only [frameExtent, List.map_cons, List.sum_cons]
  omega

/-- A whole panel frame is tested over its own extent, whatever is clocked after its check byte (R188). -/
theorem panelFrame_whole (tag check : Byte) {slots : List Slot} (more : List Byte) (fits : FitsFrame slots) :
    panelFrame (frameBody tag slots ++ check :: more)
      = some (testFrame tag (frameBody tag slots ++ [check]) (some slots)) := by
  obtain ⟨count, pos⟩ := slotCount_toNat fits
  have extent : frameExtent slots = (frameBody tag slots ++ [check]).length := by
    rw [← frameBytes_length tag slots]
    simp [frameBytes]
  have whole : (frameBody tag slots ++ check :: more).take (frameExtent slots) = frameBody tag slots ++ [check] := by
    rw [extent, List.append_cons (frameBody tag slots) check more, List.take_left]
  have taken := takeSlots_whole slots (check :: more) fits.fields
  rw [frameBody, List.cons_append, List.cons_append] at whole ⊢
  simp only [panelFrame, if_neg pos, count, if_neg (not_lt.mpr fits.count_le), taken, whole]

theorem panelFrame_overcount (tag count : Byte) (rest : List Byte) (h : 4 < count.toNat) :
    panelFrame (tag :: count :: rest) = some (.refused .frameIllegal tag) := by
  have pos : count ≠ 0 := by rintro rfl; exact absurd h (by decide)
  simp only [panelFrame, if_neg pos, if_pos h]

/-- An assertion that ends before the slot count, or whose slot count is 0, brings no frame (R188). -/
theorem panelFrame_readOnly {mosi : List Byte} (h : mosi.length < 2 ∨ mosi[1]? = some 0#8) :
    panelFrame mosi = none := by
  match mosi, h with
  | [], _ => rfl
  | [_], _ => rfl
  | tag :: count :: rest, h =>
    obtain rfl : count = 0 := by simpa using h
    rfl

/-- An assertion that ends within a frame brings none (R188). -/
theorem panelFrame_cut (tag : Byte) {slots : List Slot} {n : Nat} (fits : FitsFrame slots) (lo : 2 ≤ n)
    (hi : n < (frameBytes tag slots).length) : panelFrame ((frameBytes tag slots).take n) = none := by
  obtain ⟨count, pos⟩ := slotCount_toNat fits
  obtain ⟨m, rfl⟩ := Nat.exists_eq_add_of_le' lo
  rw [frameBytes_length, frameExtent_eq] at hi
  have cut : (frameBytes tag slots).take (m + 2)
      = tag :: BitVec.ofNat 8 slots.length :: (slots.flatMap Slot.bytes).take m := by
    rw [frameBytes, List.take_append_of_le_length (by rw [frameBody_length]; omega)]
    rfl
  rw [cut]
  simp only [panelFrame, if_neg pos, count, if_neg (not_lt.mpr fits.count_le)]
  rcases Nat.lt_or_ge m (slots.flatMap Slot.bytes).length with within | whole
  · rw [takeSlots_cut slots m fits.fields within]
  · have taken := takeSlots_whole slots [] fits.fields
    rw [List.append_nil] at taken
    rw [List.take_of_length_le whole, taken]

theorem studioFrame_short {frame : List Byte} (h : frame.length < 6) :
    studioFrame frame = .refused .frameIllegal (frame.headD 0) := if_pos h

theorem studioFrame_tested {frame : List Byte} (h : 6 ≤ frame.length) :
    studioFrame frame = testFrame (frame.headD 0) frame (studioSlots frame) := if_neg (not_lt.mpr h)

theorem studioSlots_badCount (tag : Byte) {count : Byte} (h : count = 0 ∨ 4 < count.toNat) (rest : List Byte) :
    studioSlots (tag :: count :: rest) = none := if_pos h

/-- The bytes of a frame give its slots on the studio port (R189). -/
theorem studioSlots_frameBytes (tag : Byte) {slots : List Slot} (fits : FitsFrame slots) :
    studioSlots (frameBytes tag slots) = some slots := by
  obtain ⟨count, pos⟩ := slotCount_toNat fits
  have taken := takeSlots_whole slots [-byteSum (frameBody tag slots)] fits.fields
  have inRange : ¬(BitVec.ofNat 8 slots.length = 0 ∨ 4 < slots.length) := not_or.mpr ⟨pos, not_lt.mpr fits.count_le⟩
  show studioSlots (tag :: BitVec.ofNat 8 slots.length :: (slots.flatMap Slot.bytes ++ _)) = _
  simp only [studioSlots, count, if_neg inRange, taken]

/-- A check byte is right exactly when the frame's bytes sum to 0 (R191). -/
theorem byteSum_check_iff (bs : List Byte) (check : Byte) : byteSum (bs ++ [check]) = 0 ↔ check = -byteSum bs := by
  rw [byteSum_append, byteSum_singleton, add_eq_zero_iff_neg_eq, eq_comm]

/-- Only the bytes of a frame that sum to 0 as a frame of 1 to 4 slots give slots on the studio port (R189, R191). -/
theorem frameBytes_of_studioSlots {frame : List Byte} {slots : List Slot} (sum : byteSum frame = 0)
    (h : studioSlots frame = some slots) : FitsFrame slots ∧ ∃ tag, frame = frameBytes tag slots := by
  match frame with
  | [] | [_] => cases h
  | tag :: count :: rest =>
    simp only [studioSlots] at h
    split at h
    next => cases h
    next inRange =>
      split at h
      next taken check read =>
        obtain rfl := Option.some.inj h
        obtain ⟨pos, le⟩ := not_or.mp inRange
        obtain ⟨length, rfl, fields⟩ := takeSlots_spells read
        have nonzero : count.toNat ≠ 0 := fun e => pos (BitVec.eq_of_toNat_eq e)
        have body : tag :: count :: (taken.flatMap Slot.bytes ++ [check]) = frameBody tag taken ++ [check] := by
          rw [frameBody, length, BitVec.ofNat_toNat, BitVec.setWidth_eq]
          rfl
        rw [body] at sum ⊢
        refine ⟨⟨by omega, by omega, fields⟩, tag, ?_⟩
        rw [(byteSum_check_iff _ _).mp sum]
        rfl
      next => cases h

theorem panelFrame_frameBytes (tag : Byte) {slots : List Slot} (more : List Byte) (fits : FitsFrame slots) :
    panelFrame (frameBytes tag slots ++ more) = some (testFrame tag (frameBytes tag slots) (some slots)) := by
  rw [frameBytes, List.append_assoc]
  exact panelFrame_whole tag _ more fits

theorem studioFrame_frameBytes (tag : Byte) {slots : List Slot} (fits : FitsFrame slots) :
    studioFrame (frameBytes tag slots) = testFrame tag (frameBytes tag slots) (some slots) := by
  rw [studioFrame_tested (by rw [frameBytes_length]; exact fits.extent_ge), studioSlots_frameBytes tag fits]
  rfl

/-- Settles O7: each frame is brought to the test of its bytes and slots, or to the test that comes before it. -/
theorem frameTestsInOrder : Obligations.FrameTestsInOrder := by
  refine ⟨fun tag slots more fits => ?_, fun frame short => studioFrame_short short, fun frame long sum => ?_,
    fun tag count rest range long sum => ?_, fun frame long sum apart => ?_, panelFrame_overcount,
    fun tag check slots more fits wrong => ?_⟩
  · have sum := byteSum_frameBytes tag slots
    rw [panelFrame_frameBytes tag more fits, studioFrame_frameBytes tag fits]
    exact ⟨fun legal => by rw [testFrame_legal tag sum fits legal]; exact ⟨rfl, rfl⟩,
      fun illegal => by rw [testFrame_illegal tag sum fits illegal]; exact ⟨rfl, rfl⟩⟩
  · rw [studioFrame_tested long, testFrame_unchecked _ sum]
  · rw [studioFrame_tested (by simpa using long), studioSlots_badCount tag range, testFrame_unfilled _ sum]
    rfl
  · rw [studioFrame_tested long]
    cases read : studioSlots frame with
    | none => exact testFrame_unfilled _ sum
    | some slots =>
      obtain ⟨fits, tag, spelt⟩ := frameBytes_of_studioSlots sum read
      exact absurd spelt (apart tag slots fits)
  · rw [panelFrame_whole tag check more fits, testFrame_unchecked tag (mt (byteSum_check_iff _ _).mp wrong)]

/-! ## Operands (R194, R195, R196) -/

/-- A four-byte operand, most significant byte first, in two's complement (R196). -/
theorem signedOf_four (a b c d : Byte) : signedOf [a, b, c, d]
    = ((a.toNat * 16777216 + b.toNat * 65536 + c.toNat * 256 + d.toNat : Nat) : Int)
      - (if 128 ≤ a.toNat then 4294967296 else 0) := by
  simp only [signedOf, unsignedOf, List.foldl, List.length_cons, List.length_nil]
  split_ifs <;> omega

/-- A two-byte operand, the same (R196). -/
theorem signedOf_two (a b : Byte) : signedOf [a, b]
    = ((a.toNat * 256 + b.toNat : Nat) : Int) - (if 128 ≤ a.toNat then 65536 else 0) := by
  simp only [signedOf, unsignedOf, List.foldl, List.length_cons, List.length_nil]
  split_ifs <;> omega

theorem unsignedOf_one (a : Byte) : unsignedOf [a] = a.toNat := by simp [unsignedOf]

theorem unsignedOf_two (a b : Byte) : unsignedOf [a, b] = a.toNat * 256 + b.toNat := by simp [unsignedOf]

/-- The kinds that R194 keeps from a port. -/
theorem notPermitted_iff (port : Port) (kind : Nat) :
    notPermitted port kind = true
      ↔ (port = .panel ∧ kind = 11) ∨ (port = .studio ∧ kind ∈ [8, 9, 10, 16, 17, 23, 24, 26]) := by
  cases port <;> simp [notPermitted]

theorem carryOut_refused {port : Port} {kind : Nat} (h : notPermitted port kind = true) (ops : List Byte) (s : State) :
    s.carryOut port kind ops = refuse .notPermitted s := if_pos h

theorem carryOut_permitted {port : Port} {kind : Nat} (h : notPermitted port kind = false) (ops : List Byte)
    (s : State) : s.carryOut port kind ops = s.perform port (requestOf kind ops) := if_neg (by simp [h])

/-- A kind that R194 keeps from neither port is carried out on both. -/
theorem carryOut_open {kind : Nat} (h : kind ∉ [8, 9, 10, 11, 16, 17, 23, 24, 26]) (port : Port) (ops : List Byte)
    (s : State) : s.carryOut port kind ops = s.perform port (requestOf kind ops) := by
  refine carryOut_permitted ?_ ops s
  cases port <;> simp_all [notPermitted]

/-- Settles O11: the rights test, then the row of R195 for each kind. -/
theorem rightsTestOfEachPort : Obligations.RightsTestOfEachPort := by
  refine ⟨fun port kind ops s _ => ?_, fun port n a b c d e f q s word half v motion hword hhalf hv hmotion => ?_⟩
  · rw [← notPermitted_iff, Bool.not_eq_true]
    exact ⟨fun h => carryOut_refused h ops s, fun h => carryOut_permitted h ops s⟩
  · obtain rfl : word = fun a b c d => signedOf [a, b, c, d] := by
      funext a b c d
      rw [hword, signedOf_four]
    obtain rfl : half = fun a b => signedOf [a, b] := by
      funext a b
      rw [hhalf, signedOf_two]
    obtain rfl : v = fun i => signedOf [q (4 * i), q (4 * i + 1), q (4 * i + 2), q (4 * i + 3)] := funext hv
    obtain rfl : motion = fun p req => s.motionRequest p req := by
      funext p req
      exact hmotion p req
    have ratio : ((a.toNat : Int) * 256 + b.toNat) = (unsignedOf [a, b] : Nat) := by
      rw [unsignedOf_two]
      push_cast
      rfl
    rw [ratio, ← unsignedOf_two, ← unsignedOf_two]
    simp only [← unsignedOf_one]
    have shared (kind : Nat) (ops : List Byte) (free : kind ∉ [8, 9, 10, 11, 16, 17, 23, 24, 26] := by decide) :=
      carryOut_open free port ops s
    have panel (kind : Nat) (ops : List Byte) (free : notPermitted .panel kind = false := by rfl) :=
      carryOut_permitted free ops s
    have studio (kind : Nat) (ops : List Byte) (free : notPermitted .studio kind = false := by rfl) :=
      carryOut_permitted free ops s
    exact ⟨shared 0 _, shared 1 _, shared 2 _, shared 3 _, shared 4 _, shared 5 _, shared 6 _, shared 7 _, panel 8 _,
      panel 9 _, panel 10 _, studio 11 _, shared 12 _, shared 13 _, shared 14 _, shared 15 _, panel 16 _, panel 17 _,
      shared 18 _, shared 19 _, panel 23 _, panel 24 _, panel 26 _, shared 31 _⟩

/-! ## The two frame arrivals (R188 to R190) -/

theorem exec_panelDeassertion {s : State} (h : Due.extStopCatch ∉ s.due) (mosi : List Byte) (w : Switch) :
    exec (.panelDeassertion mosi w) s = .next ((s.readSwitch w).deassert mosi) := by
  show Host.Outcome.next ((s.takeCatches.readSwitch w).deassert mosi) = _
  rw [takeCatches_of_not_mem h]

theorem exec_studioFrameArrival {s : State} (h : Due.extStopCatch ∉ s.due) (frame : List Byte) (w : Switch) :
    exec (.studioFrameArrival frame w) s = .next ((s.readSwitch w).studioArrival frame) := by
  show Host.Outcome.next ((s.takeCatches.readSwitch w).studioArrival frame) = _
  rw [takeCatches_of_not_mem h]

/-- The end of an assertion of `n` bytes before a frame in it is looked at: a response clocked out is released (R188). -/
def State.panelRead (n : Nat) (w : Switch) (s : State) : State :=
  { s with
    tapePath := w
    ports := { s.ports with
      asserted := false
      panel := { s.ports.panel with held := s.ports.panel.held.filter (fun b => decide (n < b.length)) } } }

/-- The state on which a panel frame is carried out: a response not wholly clocked out is lost (R190). -/
def State.panelCleared (n : Nat) (w : Switch) (s : State) : State :=
  { s with
    tapePath := w
    ports := { s.ports with
      asserted := false
      panel := { s.ports.panel with
        held := none
        flags := s.ports.panel.flags
          ||| (if s.ports.panel.held.any (fun b => decide (n < b.length)) then 4096#13 else 0#13) } } }

/-- The state on which a studio frame is carried out: the receiver in HUNT, a response still held lost (R189, R190). -/
def State.studioCleared (w : Switch) (s : State) : State :=
  { s with
    tapePath := w
    ports := { s.ports with
      studioRx := .hunt
      studio := { s.ports.studio with
        held := none
        flags := s.ports.studio.flags ||| (if s.ports.studio.held.isSome then 4096#13 else 0#13) } } }

theorem panelRead_eq (n : Nat) (w : Switch) (s : State) :
    ((s.readSwitch w).setAsserted false).onPort .panel (PortState.judgeRead n) = s.panelRead n w := by
  rw [funext (judgeRead_eq n)]
  rfl

theorem loseHeld_panelRead (n : Nat) (w : Switch) (s : State) :
    (s.panelRead n w).loseHeld .panel = s.panelCleared n w := by
  have lost : (s.ports.panel.held.filter (fun b => decide (n < b.length))).isSome
      = s.ports.panel.held.any (fun b => decide (n < b.length)) := Option.isSome_filter
  rw [loseHeld_eq, State.panelCleared, ← lost]
  rfl

theorem loseHeld_studio (w : Switch) (s : State) :
    ((s.readSwitch w).setStudioRx .hunt).loseHeld .studio = s.studioCleared w := by
  rw [loseHeld_eq]
  rfl

/-- What a frame that arrives does to the state in which no response is held: its answer is held (R190 to R193). -/
def State.answered (port : Port) (a : Arrival) (s : State) : State :=
  match a with
  | .refused st tag => s.holdResponse port (response tag st [])
  | .taken tag slots =>
    let r := runSlots port true slots s
    r.1.holdResponse port (response tag .ok r.2)

theorem arrive_eq (port : Port) (a : Arrival) (s : State) : s.arrive port a = (s.loseHeld port).answered port a := by
  cases a <;> rfl

/-- An assertion without a whole frame (R188). -/
theorem exec_panelDeassertion_none {s : State} {mosi : List Byte} (h : Due.extStopCatch ∉ s.due)
    (none : panelFrame mosi = none) (w : Switch) :
    exec (.panelDeassertion mosi w) s = .next (s.panelRead mosi.length w) := by
  rw [exec_panelDeassertion h, State.deassert, none, panelRead_eq]

/-- An assertion with a frame (R188, R190). -/
theorem exec_panelDeassertion_some {s : State} {mosi : List Byte} {a : Arrival} (h : Due.extStopCatch ∉ s.due)
    (frame : panelFrame mosi = some a) (w : Switch) :
    exec (.panelDeassertion mosi w) s = .next ((s.panelCleared mosi.length w).answered .panel a) := by
  rw [exec_panelDeassertion h, State.deassert, frame, panelRead_eq, ← loseHeld_panelRead, ← arrive_eq]

theorem exec_studioFrameArrival_eq {s : State} (h : Due.extStopCatch ∉ s.due) (frame : List Byte) (w : Switch) :
    exec (.studioFrameArrival frame w) s = .next ((s.studioCleared w).answered .studio (studioFrame frame)) := by
  rw [exec_studioFrameArrival h, State.studioArrival, arrive_eq, loseHeld_studio]

/-- The six bytes of a refusal (R191, R196). -/
theorem response_refusal (tag : Byte) (st : FrameStatus) :
    response tag st [] = [0#8, 6#8, tag, BitVec.ofNat 8 st.code, 0#8, -(6#8 + tag + BitVec.ofNat 8 st.code)] := by
  simp [response, u16, u8, byteSum]

/-- Settles O6: no frame, then a refused one on each port. -/
theorem partialFrameOnlyReleasesAndRefusedFrameOnlyAnswers :
    Obligations.PartialFrameOnlyReleasesAndRefusedFrameOnlyAnswers := by
  refine ⟨⟨fun mosi w s short h => exec_panelDeassertion_none h (panelFrame_readOnly short) w,
    fun tag slots n w s fits lo hi h => ?_⟩, fun frame st tag w s refused h => ?_, fun mosi st tag w s refused h => ?_⟩
  · rw [exec_panelDeassertion_none h (panelFrame_cut tag fits lo hi), List.length_take_of_le hi.le]
    rfl
  · rw [exec_studioFrameArrival_eq h, refused, ← response_refusal]
    rfl
  · rw [exec_panelDeassertion_some h refused, ← response_refusal]
    rfl

theorem operandLength_lt {kind n : Nat} (h : operandLengths[kind]? = some n) : n < 256 := by
  have table : ∀ n ∈ operandLengths, n < 256 := by decide
  exact table n (List.mem_of_getElem? h)

/-- One ALWAYS slot of a known kind with its operand length is a legal frame (R191). -/
theorem oneSlot_legal {kind : Nat} {ops : List Byte} (known : kind ≤ 31)
    (length : operandLengths[kind]? = some ops.length) : FitsFrame [⟨kind, 0, ops⟩] ∧ FrameLegal [⟨kind, 0, ops⟩] := by
  have := operandLength_lt length
  refine ⟨⟨by simp, by simp, ?_⟩, ?_, by simp, by simp⟩
  · simp only [List.mem_singleton, forall_eq]
    omega
  · simp [known, length]

/-- A legal frame on the studio port (R189 to R192). -/
theorem exec_studioFrameArrival_legal {s : State} (h : Due.extStopCatch ∉ s.due) (tag : Byte) {slots : List Slot}
    (fits : FitsFrame slots) (legal : FrameLegal slots) (w : Switch) :
    exec (.studioFrameArrival (frameBytes tag slots) w) s
      = .next ((s.studioCleared w).answered .studio (.taken tag slots)) := by
  rw [exec_studioFrameArrival_eq h, studioFrame_frameBytes tag fits,
    testFrame_legal tag (byteSum_frameBytes tag slots) fits legal]

/-- A legal frame on the panel port, whatever is clocked after its check byte (R188, R190 to R192). -/
theorem exec_panelDeassertion_legal {s : State} (h : Due.extStopCatch ∉ s.due) (tag : Byte) {slots : List Slot}
    (fits : FitsFrame slots) (legal : FrameLegal slots) (more : List Byte) (w : Switch) :
    exec (.panelDeassertion (frameBytes tag slots ++ more) w) s
      = .next ((s.panelCleared (frameBytes tag slots ++ more).length w).answered .panel (.taken tag slots)) := by
  have taken := panelFrame_frameBytes tag more fits
  rw [testFrame_legal tag (byteSum_frameBytes tag slots) fits legal] at taken
  exact exec_panelDeassertion_some h taken w

theorem answered_one (port : Port) (tag : Byte) (kind : Nat) (ops : List Byte) (s : State) :
    s.answered port (.taken tag [⟨kind, 0, ops⟩])
      = let c := s.carryOut port kind ops
        c.state.holdResponse port (response tag .ok [c.slotAnswer]) := by
  rw [State.answered, runSlots_one port rfl]

/-- Settles O8: a legal frame is taken, and one slot is the frame of that slot. -/
theorem legalFrameRunsItsSlots : Obligations.LegalFrameRunsItsSlots := by
  refine ⟨fun tag kind ops w s known length h => ?_, fun tag slots w s fits legal h =>
    ⟨exec_studioFrameArrival_legal h tag fits legal w, ?_⟩⟩
  · obtain ⟨fits, legal⟩ := oneSlot_legal known length
    have onPanel := exec_panelDeassertion_legal h tag fits legal [] w
    rw [List.append_nil, answered_one] at onPanel
    refine ⟨?_, onPanel⟩
    rw [exec_studioFrameArrival_legal h tag fits legal, answered_one]
    rfl
  · rintro more mosi rfl
    exact exec_panelDeassertion_legal h tag fits legal more w

/-! ## Receive events, link errors and unaccepted reports (R106 to R108, R188, R189, R203) -/

/-- A link error of a receiver left in a given state (R106, R199, R203). -/
theorem linkError_eq (rx : LinkRx) (s : State) :
    (s.setLinkRx rx).linkError = { s with
      map := { s.map with linkErrors := min (s.map.linkErrors + 1) 255 }
      ports := { s.ports with
        linkRx := rx
        panel := { s.ports.panel with flags := s.ports.panel.flags ||| 1024#13 }
        studio := { s.ports.studio with flags := s.ports.studio.flags ||| 1024#13 } } } := rfl

/-- A link frame by its check, whether or not its report is accepted (R203). -/
theorem exec_addressLinkFrame_eq {s : State} (h : Due.extStopCatch ∉ s.due) (high mid low check : Byte) :
    exec (.addressLinkFrame high mid low check) s
      = .next (if linkCheck high mid low check
          then (s.setLinkRx (.hunt false)).addressReport (linkAddress high mid low)
          else (s.setLinkRx (.hunt false)).linkError) := by
  show Host.Outcome.next (if _ then (s.takeCatches.setLinkRx (.hunt false)).addressReport _ else _) = _
  rw [takeCatches_of_not_mem h]

theorem exec_lostSync {s : State} (h : Due.extStopCatch ∉ s.due) :
    exec .lostSync s
      = .next (if s.ports.linkRx = .hunt false then (s.setLinkRx (.hunt true)).linkError else s) := by
  show Host.Outcome.next (if s.takeCatches.ports.linkRx = .hunt false then _ else s.takeCatches) = _
  rw [takeCatches_of_not_mem h]

/-- A gap and a framing error of the link both discard the frame in progress (R203). -/
theorem exec_linkDiscard {s : State} (h : Due.extStopCatch ∉ s.due) :
    exec .linkGapTimeout s = .next s.discardLink ∧ exec .linkFramingError s = .next s.discardLink := by
  show Host.Outcome.next s.takeCatches.discardLink = _ ∧ Host.Outcome.next s.takeCatches.discardLink = _
  rw [takeCatches_of_not_mem h]
  exact ⟨rfl, rfl⟩

/-- A report without a head length, outside the reading set or above the report speed limit changes nothing (R107,
R108). -/
theorem addressReport_unaccepted {s : State} (h : s.geom.head = none ∨ s.seq.transport.reading = false
    ∨ paramOf s.ports.params Param.reportSpeed < mag s.speed.vMeas) (a : Int) : s.addressReport a = s := by
  unfold State.addressReport
  split
  case h_1 => rfl
  case h_2 head present =>
    have unaccepted : s.acceptsReports = false := by
      rcases h with absent | still | fast
      · rw [absent] at present
        cases present
      · simp [State.acceptsReports, still]
      · simp [State.acceptsReports, State.param, not_le.mpr fast]
    rw [if_neg (by simp [unaccepted])]

/-- Settles O5: each event by the form of its command. -/
theorem receiveEventsLinkErrorsAndUnacceptedReports : Obligations.ReceiveEventsLinkErrorsAndUnacceptedReports := by
  refine ⟨fun s h => ?_, fun s h => ⟨fun rx => ⟨_, linkError_eq rx s, ?_, ?_, ?_⟩, fun counted => ?_, fun idle => ?_⟩,
    fun high mid low check s sum h unaccepted => ?_⟩
  · simp only [exec, execChipSelectAssertion, execRequestStartByte, execSyncByte, execStudioGapTimeout,
      execStudioFramingError, execStudioResponseSent, takeCatches_of_not_mem h]
    exact ⟨rfl, rfl, rfl, rfl, rfl, rfl⟩
  · rintro rfl high mid low check sum
    rw [exec_addressLinkFrame_eq h, if_neg (mt (linkCheck_iff).mp sum)]
  · rintro rfl hunting
    rw [exec_lostSync h, if_pos hunting]
  · rintro rfl collecting
    obtain ⟨gap, framing⟩ := exec_linkDiscard h
    rw [State.discardLink, if_pos collecting] at gap framing
    exact ⟨gap, framing⟩
  · rw [exec_lostSync h, if_neg counted]
  · obtain ⟨gap, framing⟩ := exec_linkDiscard h
    rw [State.discardLink, if_neg idle] at gap framing
    exact ⟨gap, framing⟩
  · rw [exec_addressLinkFrame_eq h, if_pos ((linkCheck_iff).mpr sum),
      addressReport_unaccepted (s := s.setLinkRx (.hunt false)) unaccepted]
    rfl

end Sys2Proof.Machine

/-! # The operating sequences family

DEVICE_RESET, R205: what the state after reset holds for each reel and each port, what it holds in the parameter table, and
the two statements about it. -/

namespace Sys2Proof.Machine

/-! ## The parameter table at its defaults (R63, R202) -/

/-- The play speed's default is mode pin 0's (R63). -/
theorem paramOf_default_playSpeed (mode0 mode1 : Bool) :
    paramOf (paramDefaults mode0 mode1) Param.playSpeed = if mode0 then 1905 else 3810 := by
  rw [paramOf_paramDefaults mode0 mode1 (row := ⟨1905, 3810, 3810⟩) rfl, paramDefault, if_pos rfl]

/-- The settle time's default is mode pin 1's (R63). -/
theorem paramOf_default_settleTime (mode0 mode1 : Bool) :
    paramOf (paramDefaults mode0 mode1) Param.settleTime = if mode1 then 2000 else 250 := by
  rw [paramOf_paramDefaults mode0 mode1 (row := ⟨250, 2000, 250⟩) rfl, paramDefault, if_neg (by decide), if_pos rfl]

/-- Every other default is its row's (R202). -/
theorem paramOf_default_row (mode0 mode1 : Bool) {n : Nat} {row : ParamRow} (hn : paramRows[n]? = some row)
    (play : n ≠ Param.playSpeed) (settle : n ≠ Param.settleTime) :
    paramOf (paramDefaults mode0 mode1) n = row.default := by
  rw [paramOf_paramDefaults mode0 mode1 hn, paramDefault, if_neg play, if_neg settle]

/-! ## Each reel after reset (R4, R15, R41, R60) -/

theorem reset_axis (l : ResetLevels) (r : Reel) : (State.resetWith l).tension.axes.get r = .reset := by
  cases r <;> rfl

theorem reset_reelGeometry (l : ResetLevels) (r : Reel) :
    (State.resetWith l).geom.bound.get r = none ∧ (State.resetWith l).geom.est.get r = .reset := by
  cases r <;> exact ⟨rfl, rfl⟩

theorem reset_reelSpeed (l : ResetLevels) (r : Reel) :
    (State.resetWith l).speed.reels.get r = .reset ∧ (State.resetWith l).speed.reelRate.get r = 0
      ∧ (State.resetWith l).speed.overspeed.get r = 0 := by
  cases r <;> exact ⟨rfl, rfl, rfl⟩

/-! ## DEVICE_RESET (R205) -/

/-- DEVICE_RESET answers the state after reset; the queue and the counter of free values stand (log entries 4 and 2). -/
theorem exec_deviceReset (l : ResetLevels) (s : State) :
    exec (.deviceReset l) s = .next { State.resetWith l with draws := s.draws, pending := s.pending } := rfl

/-- A port after reset has no response, no flag and every flag enabled (R187, R199, R204). -/
theorem reset_portFields (l : ResetLevels) (p : Port) :
    ((State.resetWith l).ports.port p).held = none ∧ ((State.resetWith l).ports.port p).flags = 0
      ∧ ((State.resetWith l).ports.port p).mask = BitVec.allOnes 13 := by
  rw [reset_port]
  exact ⟨rfl, rfl, rfl⟩

/-- Settles O3: block by block in the order of the statement, the reels, the ports and the table by their lemmas. -/
theorem deviceResetGivesResetValues : Obligations.DeviceResetGivesResetValues := by
  intro l s
  refine ⟨_, exec_deviceReset l s, rfl, rfl, ?sequencer⟩
  refine ⟨rfl, rfl, rfl, rfl, rfl, rfl, rfl, rfl, rfl, ?geometry⟩
  refine ⟨rfl, reset_reelGeometry l, rfl, ?tension⟩
  refine ⟨reset_axis l, rfl, rfl, ?speed⟩
  refine ⟨rfl, rfl, reset_reelSpeed l, rfl, rfl, rfl, rfl, rfl, rfl, rfl, rfl, rfl, rfl, ?arbiter⟩
  refine ⟨rfl, rfl, rfl, rfl, rfl, ?mapAndMarks⟩
  refine ⟨rfl, rfl, rfl, rfl, rfl, ?locateAndProtection⟩
  refine ⟨rfl, rfl, rfl, rfl, rfl, rfl, rfl, rfl, ?ports⟩
  refine ⟨reset_portFields l, rfl, rfl, rfl, ?table⟩
  rw [reset_params]
  exact ⟨paramOf_default_playSpeed _ _, paramOf_default_settleTime _ _, fun _ _ hn => paramOf_default_row _ _ hn⟩

/-! ## The invariants after reset -/

/-- In UNTHREADED every output is off and the generator is forced, with no deceleration (R62, R94, R45, R51). -/
theorem reset_outputsFollow (l : ResetLevels) : OutputsFollow (State.resetWith l) :=
  ⟨rfl, rfl, by simp [State.resetWith, Speed.reset], nofun⟩

theorem reset_paramsInRange (l : ResetLevels) : ParamsInRange (State.resetWith l).ports.params := by
  simp only [State.resetWith]
  exact paramDefaults_inRange l.mode0High l.mode1High

/-- Every drive word is 0, and no limit is below 0 (R31, R53). -/
theorem reset_driveWordsWithin (l : ResetLevels) : DriveWordsWithin (State.resetWith l) := by
  have limit := (reset_paramsInRange l).nonneg
  refine ⟨fun r => ?_, limit Param.capstanLimit⟩
  rw [reset_axis]
  exact limit _

theorem reset_forcedAtRest (l : ResetLevels) : ForcedAtRest (State.resetWith l) := by
  refine fun _ => ⟨fun r => ?_, rfl, rfl, rfl, rfl, rfl⟩
  rw [reset_axis]
  exact ⟨rfl, rfl, rfl, rfl⟩

theorem reset_headInRange (l : ResetLevels) : HeadInRange (State.resetWith l).geom := nofun

theorem reset_timersFollow (l : ResetLevels) : TimersFollow (State.resetWith l) := ⟨nofun, nofun, nofun, nofun, nofun⟩

theorem reset_returnsBounded (l : ResetLevels) : ReturnsBounded (State.resetWith l) := Nat.zero_le _

theorem reset_marksWellFormed (l : ResetLevels) : MarksWellFormed (State.resetWith l).marks := ⟨.nil, nofun⟩

theorem reset_marksResolved (l : ResetLevels) : MarksResolved (State.resetWith l) := nofun

theorem reset_reportWellFormed (l : ResetLevels) : ReportWellFormed (State.resetWith l).prot :=
  ⟨nofun, fun _ held => nomatch held⟩

/-- Settles O4, invariant by invariant. -/
theorem resetMeetsInvariants : Obligations.ResetMeetsInvariants :=
  ⟨fun l => ⟨reset_outputsFollow l, reset_paramsInRange l, reset_driveWordsWithin l, reset_forcedAtRest l,
      reset_headInRange l, reset_timersFollow l, reset_returnsBounded l, spansWellFormed_nil, reset_marksWellFormed l,
      reset_marksResolved l, reset_reportWellFormed l⟩,
    rfl⟩

end Sys2Proof.Machine

namespace Sys2Proof.Machine

/-! ## The queue's front command (log entries 3 and 4) -/

/-- The case of `step` in which a command waits; `step_of_raised` and `step_idle` are those of the empty queue. -/
theorem step_of_pending {s : State} {c : Instr} {rest : List Instr} (hp : s.pending = c :: rest) :
    step s = exec c { s with pending := rest } := by
  simp only [step, hp]

/-- Settles O1: the queue's rest replaces the whole queue, so what `exec` runs on does not hold the front command. -/
theorem stepRunsFrontCommand : Obligations.StepRunsFrontCommand :=
  fun _ _ _ => step_of_pending rfl

end Sys2Proof.Machine
